-- ==== Sys2Proof/Word.lean ====
section
/-! DEFINITION. The two word types of the engine: bytes and 16-bit addresses (R6). -/

namespace Sys2Proof

/-- A data byte: `A`, `X`, `Y`, `SP`, `P` and every memory byte (R6). -/
abbrev Byte := BitVec 8

/-- A 16-bit address or program counter (R6). -/
abbrev Addr := BitVec 16

end Sys2Proof
end

