-- ==== Sys2Proof/Machine/Bytes.lean ====
section
/-! DEFINITION. The byte-order, concatenation and extension helpers of R12 and R13, and the size of the
program ROM image. -/

namespace Sys2Proof

/-- `{h, l} = h * 256 + l` (R12). -/
def word (h l : Byte) : Addr := h ++ l

/-- `lo(w) = w[7:0]` (R12). -/
def lo (w : Addr) : Byte := w.extractLsb' 0 8

/-- `hi(w) = w[15:8]` (R12). -/
def hi (w : Addr) : Byte := w.extractLsb' 8 8

/-- `zext_16(b)` (R13). -/
def zext16 (b : Byte) : Addr := b.setWidth 16

/-- `sext_16(b)`: `b` if bit 7 is clear, `b + 0xFF00` if it is set (R13). -/
def sext16 (b : Byte) : Addr := b.signExtend 16

end Sys2Proof
end

