-- ==== Sys2Proof/Config.lean ====
section
/-! DEFINITION. The parameters of a machine (R8, R10), the fixed constants of the engine, and the
free values the spec leaves open. -/

namespace Sys2Proof

/-- The two program ROM sizes the spec admits (R8, D5). -/
inductive PrgSize where
  /-- one 16 KB bank: `|PRG| = 0x4000`, mirrored into the upper half (R59) -/
  | bank16K
  /-- two banks: `|PRG| = 0x8000` -/
  | bank32K
  deriving DecidableEq, Repr

/-- The parameter `UNSTABLE_POLICY` (R10, D13). -/
inductive UnstablePolicy where
  /-- the seven unstable opcodes run as R273, R274 and R276 to R279 say (the default) -/
  | fusion
  /-- a step of one of them has no meaning (R284) -/
  | refuse
  deriving DecidableEq, Repr

namespace Config

/-- The reset vector (R63, R330). -/
def resetVector : Addr := 0xFFFC

/-- `SP` after reset (R38). -/
def resetSP : Byte := 0xFD

/-- `P` after reset: `P.U` and `P.I` set (R38). -/
def resetP : Byte := 0x24

/-- FREE VALUE (log 4, 5, 6): the byte the model draws where the spec says "any value", as a function
of the draw counter of State. It has no body that a proof can see. -/
opaque drawByte : Nat → Byte

/-- FREE VALUE (log 4, 5, 6): the 16-bit draw, for `PC`. -/
opaque drawAddr : Nat → Addr

end Config

end Sys2Proof
end

