-- ==== Sys2Proof/Machine/State.lean ====
section
/-! DEFINITION. The state of the machine (R20, R31, R35, R40), the reasons a step can stop, and the state
after reset (R38). -/

namespace Sys2Proof.Machine

/-- Why the engine halted (R303, R304). -/
inductive HaltReason where
  /-- opcode 0x00 (R236) -/
  | brk
  /-- one of the twelve KIL opcodes (R283) -/
  | kil
  deriving DecidableEq, Repr

/-- The two fatal faults, each with its record of R305: the opcode byte, the address of that byte, and
for a ROM write the address written. Stopping with the record alone is SAFE: the spec defines nothing
else after a fault. -/
inductive Fault where
  /-- Raised by a step whose opcode byte has no table entry (R301). Unreachable with the total table
  (C6). Safe. -/
  | unknownOpcode (opcode : Byte) (pc : Addr)
  /-- Raised by an instruction that writes an address in 0x8000 to 0xFFFF (R60, R302). Safe. -/
  | romWrite (opcode : Byte) (pc : Addr) (addr : Addr)
  deriving DecidableEq, Repr

/-- The run state (R31). -/
inductive RunState where
  /-- a step can be taken -/
  | running
  /-- left only by the host's reset -/
  | halted (reason : HaltReason)
  /-- never left -/
  | faulted (record : Fault)
  deriving DecidableEq, Repr

/-- The reasons a step or a host operation has no result. None of them is met by an instruction that
the spec gives an effect. -/
inductive Refusal where
  /-- An instruction with no meaning yet, by its mnemonic; no arm of exec raises it now. Safe. -/
  | notModelled (mnemonic : String)
  /-- Raised by the seven unstable opcodes under the policy `refuse` only (R284). Safe. -/
  | unstableOpcode (opcode : Byte) (pc : Addr)
  /-- Raised by a step or a run before the first reset (R39, D20). Safe. -/
  | beforeReset
  /-- Raised by a step from Halted: no step is taken there (R105, R303, R304). Safe. -/
  | engineHalted (reason : HaltReason)
  /-- Raised by a step or a host operation after a fault (R105, R305, D21). Safe. -/
  | engineFaulted (record : Fault)
  /-- Raised by `new` with an image of neither 0x4000 nor 0x8000 bytes (R8, D5). Safe. -/
  | romSize (bytes : Nat)
  /-- Raised by `load` with more than 0x8000 bytes (R332, D24). Safe. -/
  | programTooLong (bytes : Nat)
  deriving DecidableEq, Repr

/-- The machine state (R40), with the parameters that must be fixed to run it.

`mem` holds RAM and the program ROM image together, one cell per physical byte: RAM offset `o` has key
`o` (0 to 0x7FF) and ROM offset `o` has key `0x8000 + o` (R35, R58, R59). Its canonical form is
`Memory.wf` of Machine/Ops.lean. -/
structure State where
  /-- accumulator (R21) -/
  a         : Byte
  /-- index register (R22) -/
  x         : Byte
  /-- index register (R23) -/
  y         : Byte
  /-- stack pointer: offset into page 1 (R24) -/
  sp        : Byte
  /-- status register (R25); all eight bits are stored (C4) -/
  p         : Byte
  /-- program counter (R32) -/
  pc        : Addr
  /-- run state (R31) -/
  run       : RunState
  /-- RAM and program ROM (R35) -/
  mem       : List Host.Cell
  /-- the length of the program ROM image (R8) -/
  prgSize   : PrgSize
  /-- the parameter UNSTABLE_POLICY (R10) -/
  policy    : UnstablePolicy
  /-- whether a reset has happened since `new` (R39, R335) -/
  resetDone : Bool
  /-- the model's own field: the counter of free values drawn (log 6) -/
  draws     : Nat
  deriving DecidableEq, Repr

/-- The machine right after reset (R38), with nothing listed in memory (log 1, 2) and the default policy
(R10). `PC` is the word at the reset vector, which reads 0x0000 in this memory. -/
def State.reset : State where
  a         := 0x00
  x         := 0x00
  y         := 0x00
  sp        := Config.resetSP
  p         := Config.resetP
  pc        := 0x0000
  run       := .running
  mem       := []
  prgSize   := .bank32K
  policy    := .fusion
  resetDone := true
  draws     := 0

end Sys2Proof.Machine
end

