-- ==== Sys2Proof/Machine/Ops.lean ====
section
/-! DEFINITION. The named operations over memory, registers and the stack, the bus decode, the halts and
the faults. -/

namespace Sys2Proof.Machine

/-- The outcome of an operation that can stop. -/
abbrev Result := Host.Outcome State Fault Refusal

/-- Continues with `f` where an operation gave a next state; a fault or a refusal ends the step (R16). -/
def Result.andThen (r : Result) (f : State → State) : Result :=
  match r with
  | .next s => .next (f s)
  | .fault e => .fault e
  | .refused e => .refused e

/-- Continues with an operation that can stop itself. -/
def Result.seq (r : Result) (f : State → Result) : Result :=
  match r with
  | .next s => f s
  | .fault e => .fault e
  | .refused e => .refused e

/-! ### Memory as a list of cells -/

/-- What a physical byte that is not listed reads as: 0x00. For ROM it is the fill of `load` (R332);
for RAM it is the choice of log 1. -/
def unlistedByte (_key : Nat) : Byte := 0x00

/-- The byte at a physical key. -/
def Memory.read : List Host.Cell → Nat → Byte
  | [], key => unlistedByte key
  | (k, v) :: rest, key => if k = key then v else Memory.read rest key

/-- The cells with the byte at `key` listed, or not listed where it is what an unlisted byte reads as. -/
def Memory.cell (key : Nat) (v : Byte) (rest : List Host.Cell) : List Host.Cell :=
  if v = unlistedByte key then rest else (key, v) :: rest

/-- Writes the byte at a physical key, keeping the canonical form. -/
def Memory.write : List Host.Cell → Nat → Byte → List Host.Cell
  | [], key, v => Memory.cell key v []
  | (k, w) :: rest, key, v =>
    if key < k then Memory.cell key v ((k, w) :: rest)
    else if key = k then Memory.cell key v rest
    else (k, w) :: Memory.write rest key v

/-- The canonical form: keys strictly rising, and no cell equal to what an unlisted byte reads as. -/
def Memory.wf : List Host.Cell → Bool
  | [] => true
  | (k, v) :: rest =>
    decide (v ≠ unlistedByte k) && rest.all (fun c => decide (k < c.1)) && Memory.wf rest

/-- Writes the bytes of a list at rising keys from `key` on. -/
def Memory.writeList (m : List Host.Cell) (key : Nat) : List Byte → List Host.Cell
  | [] => m
  | b :: rest => Memory.writeList (Memory.write m key b) (key + 1) rest

/-! ### The bus -/

/-- Whether an address lies in the RAM window 0x0000 to 0x1FFF (R56, R58). -/
def inRam (a : Addr) : Bool := decide (a.toNat < 0x2000)

/-- Whether an address lies in cartridge ROM, 0x8000 to 0xFFFF (R56, R59). -/
def inRom (a : Addr) : Bool := decide (0x8000 ≤ a.toNat)

/-- The RAM key an address of the RAM window reaches (R58). -/
def ramKey (a : Addr) : Nat := (a &&& 0x07FF).toNat

/-- The length of the program ROM image (R8). -/
def romLength : PrgSize → Nat
  | .bank16K => 0x4000
  | .bank32K => 0x8000

/-- The offset into the ROM image (R59): a 16 KB image is mirrored by the modulus (C1). -/
def romOffset (size : PrgSize) (a : Addr) : Nat :=
  match size with
  | .bank16K => (a.toNat - 0x8000) % 0x4000
  | .bank32K => a.toNat - 0x8000

/-- The physical byte an address reaches, or none in the PPU window and the unmapped range (R56). -/
def backing (size : PrgSize) (a : Addr) : Option Nat :=
  if inRam a then some (ramKey a)
  else if inRom a then some (0x8000 + romOffset size a)
  else none

/-- Whether a key names a physical byte: a RAM byte or a byte of the ROM image. -/
def validKey (size : PrgSize) (key : Nat) : Bool :=
  decide (key < 0x800) || decide (0x8000 ≤ key ∧ key < 0x8000 + romLength size)

/-- `MemRead(addr, 1)` (R52): never fails, changes nothing. -/
def State.readByte (s : State) (a : Addr) : Byte :=
  match backing s.prgSize a with
  | some key => Memory.read s.mem key
  | none => 0x00

/-- `MemRead(addr, 2)` (R53): little-endian, with wrap at 0xFFFF (D2). -/
def State.readWord (s : State) (a : Addr) : Addr := word (s.readByte (a + 1)) (s.readByte a)

/-- The effect of a byte write that does not fault (R54): the RAM byte changes in the RAM window, nothing
happens elsewhere. -/
def State.poke (s : State) (a : Addr) (v : Byte) : State :=
  if inRam a then { s with mem := Memory.write s.mem (ramKey a) v } else s

/-- `raise RomWrite(addr)` for the instruction with opcode byte `op` (R16, R302). During an instruction
`PC` is `snap`, so the opcode byte stands at `PC - 1` (R305). -/
def raiseRomWrite (op : Byte) (a : Addr) (s : State) : Result := .fault (.romWrite op (s.pc - 1) a)

/-- `raise UnknownOpcode(op)`, from decode, where `PC` still names the opcode byte (R301, R305). -/
def raiseUnknownOpcode (op : Byte) (s : State) : Result := .fault (.unknownOpcode op s.pc)

/-- `MemWrite(addr, 1, v)` by the instruction with opcode byte `op` (R54, R60). -/
def writeByte (op : Byte) (a : Addr) (v : Byte) (s : State) : Result :=
  if inRom a then raiseRomWrite op a s else .next (s.poke a v)

/-- `MemWrite(addr, 2, v)` (R55): low byte, then high byte at the next address. No instruction uses it. -/
def writeWord (op : Byte) (a : Addr) (v : Addr) (s : State) : Result :=
  (writeByte op a (lo v) s).seq fun t => writeByte op (a + 1) (hi v) t

/-! ### Registers -/

/-- `A <- v`. -/
def State.setA (s : State) (v : Byte) : State := { s with a := v }
/-- `X <- v`. -/
def State.setX (s : State) (v : Byte) : State := { s with x := v }
/-- `Y <- v`. -/
def State.setY (s : State) (v : Byte) : State := { s with y := v }
/-- `SP <- v`. -/
def State.setSP (s : State) (v : Byte) : State := { s with sp := v }
/-- `P <- v`, all eight bits. -/
def State.setP (s : State) (v : Byte) : State := { s with p := v }
/-- `PC <- v`. -/
def State.setPC (s : State) (v : Addr) : State := { s with pc := v }
/-- Sets the run state. -/
def State.setRun (s : State) (r : RunState) : State := { s with run := r }

/-! ### The stack -/

/-- The address of the byte a stack pointer names (R24). -/
def stackAddr (sp : Byte) : Addr := 0x0100 + zext16 sp

/-- `Push(b)` (R125): write, then decrement. The stack page lies in RAM, so it never faults. -/
def State.push (s : State) (b : Byte) : State := (s.poke (stackAddr s.sp) b).setSP (s.sp - 1)

/-- The byte `Pull()` returns (R126): read after the increment. -/
def State.pullByte (s : State) : Byte := s.readByte (stackAddr (s.sp + 1))

/-- The state after `Pull()` (R126). -/
def State.pulled (s : State) : State := s.setSP (s.sp + 1)

/-- `Push16(w)` (R127): the high byte first. -/
def State.push16 (s : State) (w : Addr) : State := (s.push (hi w)).push (lo w)

/-- The word `Pull16()` returns (R128): low byte, then high byte. -/
def State.pullWord (s : State) : Addr := word s.pulled.pullByte s.pullByte

/-- The state after `Pull16()` (R128). -/
def State.pulled16 (s : State) : State := s.pulled.pulled

/-! ### Halts, and the return from interrupt

The engine takes no exception in the sense of a transfer to a handler (R311): an exceptional step halts
the engine or stops it with a fault. -/

/-- `halt(reason)` (R16): the engine is Halted and `PC` stays at `snap`. -/
def State.halt (s : State) (reason : HaltReason) : State := s.setRun (.halted reason)

/-- The return from interrupt (R227, R312): `P <- Pull(); PC <- Pull16()`, no bit forced. -/
def State.returnFromInterrupt (s : State) : State :=
  (s.pulled.pulled16.setP s.pullByte).setPC s.pulled.pullWord

/-! ### The advance -/

/-- The advance after an instruction (R104): where the engine still runs and `PC` still equals `snap`,
skip the operand bytes of an instruction of `len` bytes. -/
def State.advance (snap : Addr) (len : Nat) (s : State) : State :=
  if s.run = .running ∧ s.pc = snap then s.setPC (s.pc + BitVec.ofNat 16 (len - 1)) else s

/-! ### Free values -/

/-- Every RAM byte below `n` with a free value, from draw `d` on. -/
def redrawRam (d : Nat) : Nat → List Host.Cell → List Host.Cell
  | 0, m => m
  | n + 1, m => Memory.write (redrawRam d n m) n (Config.drawByte (d + n))

/-- The registers with free values, from the draw counter on. -/
def State.redrawRegs (s : State) : State :=
  { s with
    a := Config.drawByte s.draws
    x := Config.drawByte (s.draws + 1)
    y := Config.drawByte (s.draws + 2)
    sp := Config.drawByte (s.draws + 3)
    p := Config.drawByte (s.draws + 4)
    pc := Config.drawAddr (s.draws + 5)
    draws := s.draws + 6 }

/-- The engine after a fatal fault (R305): Faulted with its record, every register and RAM byte any value
(log 4), the ROM image as it was. -/
def State.enterFaulted (s : State) (f : Fault) : State :=
  let t := s.redrawRegs
  { t with run := .faulted f, mem := redrawRam t.draws 0x800 t.mem, draws := t.draws + 0x800 }

/-! ### Cause codes (R306) -/

/-- The code of a fatal fault. -/
def Fault.code : Fault → Byte
  | .unknownOpcode _ _ => 0x01
  | .romWrite _ _ _ => 0x02

/-- The code of a halt. -/
def HaltReason.code : HaltReason → Byte
  | .brk => 0x10
  | .kil => 0x11

/-- The `addr` field of a fault record (R305): the address written, or none. -/
def Fault.addrField : Fault → Option Addr
  | .unknownOpcode _ _ => none
  | .romWrite _ _ a => some a

end Sys2Proof.Machine
end

