-- ==== Sys2Proof/Machine/Flags.lean ====
section
/-! DEFINITION. The status flags (R25) and every flag computation: the zero and negative update, the add
and compare paths, and the shift functions (R122 to R124, R129). -/

namespace Sys2Proof.Machine

/-- The eight flags of `P` (R25). -/
inductive Flag where
  | C | Z | I | D | B | U | V | N
  deriving DecidableEq, Repr

/-- The bit of a flag in `P` (R25). -/
def Flag.bit : Flag → Nat
  | .C => 0
  | .Z => 1
  | .I => 2
  | .D => 3
  | .B => 4
  | .U => 5
  | .V => 6
  | .N => 7

/-- The mask of a flag in `P` (R25). -/
def Flag.mask : Flag → Byte
  | .C => 0x01
  | .Z => 0x02
  | .I => 0x04
  | .D => 0x08
  | .B => 0x10
  | .U => 0x20
  | .V => 0x40
  | .N => 0x80

/-- Reads a flag of a status byte. -/
def getFlag (p : Byte) (f : Flag) : Bool := p.getLsbD f.bit

/-- A status byte with one flag written and the seven others kept (R14). -/
def putFlag (p : Byte) (f : Flag) (b : Bool) : Byte :=
  if b then p ||| f.mask else p &&& ~~~f.mask

/-- `P.f` of the live register. -/
def State.flag (s : State) (f : Flag) : Bool := getFlag s.p f

/-- `P.f <- b`. -/
def State.setFlag (s : State) (f : Flag) (b : Bool) : State := s.setP (putFlag s.p f b)

/-- `SetZN(v)` (R122). -/
def State.setZN (s : State) (v : Byte) : State :=
  (s.setFlag .Z (v == 0)).setFlag .N (v.getLsbD 7)

/-- The 9-bit sum of the add path (R123). -/
def addSum (a m : Byte) (c : Bool) : Nat := a.toNat + m.toNat + c.toNat

/-- The 8-bit result of the add path (R123). -/
def addByte (a m : Byte) (c : Bool) : Byte := BitVec.ofNat 8 (addSum a m c)

/-- The carry out of the add path (R123). -/
def addCarry (a m : Byte) (c : Bool) : Bool := decide (0xFF < addSum a m c)

/-- The signed-overflow identity of the add path (R123). -/
def addOverflow (a m : Byte) (c : Bool) : Bool :=
  ((m ^^^ addByte a m c) &&& (a ^^^ addByte a m c) &&& 0x80) != 0

/-- `AddPath(m)` (R123). `P.D` is not read. -/
def State.addPath (s : State) (m : Byte) : State :=
  let c := s.flag .C
  let r := addByte s.a m c
  (((s.setFlag .C (addCarry s.a m c)).setFlag .V (addOverflow s.a m c)).setZN r).setA r

/-- `ComparePath(r, m)` (R124). -/
def State.comparePath (s : State) (r m : Byte) : State :=
  ((s.setFlag .C (decide (m.toNat ≤ r.toNat))).setFlag .Z (r == m)).setFlag .N ((r - m).getLsbD 7)

/-- `ShiftLeft(v)`: the result and the carry out (R129). -/
def shiftLeft (v : Byte) : Byte × Bool := (v <<< 1, v.getLsbD 7)

/-- `ShiftRight(v)` (R129). -/
def shiftRight (v : Byte) : Byte × Bool := (v >>> 1, v.getLsbD 0)

/-- A bit as a byte. -/
def bitByte (b : Bool) : Byte := if b then 1 else 0

/-- `RotateLeft(v, c)` (R129). -/
def rotateLeft (v : Byte) (c : Bool) : Byte × Bool := ((v <<< 1) ||| bitByte c, v.getLsbD 7)

/-- `RotateRight(v, c)` (R129). -/
def rotateRight (v : Byte) (c : Bool) : Byte × Bool := ((v >>> 1) ||| (bitByte c <<< 7), v.getLsbD 0)

end Sys2Proof.Machine
end

