-- ==== Sys2Proof/Syntax.lean ====
section
/-! DEFINITION. The syntax: addressing modes, operand forms, the opcode table's entry type, and the
instructions, one constructor per row of spec/opcode_table.json (R80 to R88). -/

namespace Sys2Proof

/-- The 13 addressing modes (R83). -/
inductive Mode where
  | immediate | zeroPage | zeroPageX | zeroPageY | absolute | absoluteX | absoluteY
  | indirect | indirectX | indirectY | relative | accumulator | implied
  deriving DecidableEq, Repr

/-- An operand as the instruction bytes give it: its addressing mode and the value assembled from the
operand bytes, not yet indexed or dereferenced (R84). -/
inductive Operand where
  | immediate (imm : Byte)
  | zeroPage (zp : Byte)
  | zeroPageX (zp : Byte)
  | zeroPageY (zp : Byte)
  | absolute (addr : Addr)
  | absoluteX (addr : Addr)
  | absoluteY (addr : Addr)
  | indirect (ptr : Addr)
  | indirectX (zp : Byte)
  | indirectY (zp : Byte)
  | relative (off : Byte)
  | accumulator
  | implied
  deriving DecidableEq, Repr

/-- The mnemonics of the opcode table (R88), spelled as the table spells them. -/
inductive Mnemonic where
  | ADC | ALR | ANC | AND | ARR | ASL | AXS | BCC | BCS | BEQ | BIT | BMI | BNE
  | BPL | BRK | BVC | BVS | CLC | CLD | CLI | CLV | CMP | CPX | CPY | DCP | DEC
  | DEX | DEY | EOR | INC | INX | INY | ISC | JMP | JSR | KIL | LAS | LAX | LDA
  | LDX | LDY | LSR | LXA | NOP | ORA | PHA | PHP | PLA | PLP | RLA | ROL | ROR
  | RRA | RTI | RTS | SAX | SBC | SEC | SED | SEI | SHA | SHX | SHY | SLO | SRE
  | STA | STX | STY | TAS | TAX | TAY | TSX | TXA | TXS | TYA | XAA
  deriving DecidableEq, Repr

/-- The "documented" column of the opcode table (R88). -/
inductive OpStatus where
  /-- one of the 151 official opcodes -/
  | documented
  /-- an undocumented opcode with one behaviour -/
  | undocumented
  /-- an undocumented opcode under `UNSTABLE_POLICY` (R10) -/
  | unstable
  deriving DecidableEq, Repr

/-- One entry of the opcode table (R86). `baseCycles` is informative data that no rule reads (R344);
the KIL rows give none. -/
structure OpEntry where
  code       : Byte
  mnemonic   : Mnemonic
  mode       : Mode
  length     : Nat
  status     : OpStatus
  baseCycles : Option Nat
  deriving DecidableEq, Repr

/-- The instructions: one constructor per opcode byte, named after its mnemonic and mode, with the
opcode byte at the end of the name where the table has several rows of one mnemonic and mode. The
instructions with an operand stand first, in table order, then the one-byte instructions. -/
inductive Instr where
  /-- 0x01 ORA Indirect_X, R173. -/
  | oraIndirectX (zp : Byte)
  /-- 0x03 SLO Indirect_X, R265. -/
  | sloIndirectX (zp : Byte)
  /-- 0x04 NOP ZeroPage, R282. -/
  | nopZeroPage04 (zp : Byte)
  /-- 0x05 ORA ZeroPage, R173. -/
  | oraZeroPage (zp : Byte)
  /-- 0x06 ASL ZeroPage, R175. -/
  | aslZeroPage (zp : Byte)
  /-- 0x07 SLO ZeroPage, R265. -/
  | sloZeroPage (zp : Byte)
  /-- 0x09 ORA Immediate, R173. -/
  | oraImmediate (imm : Byte)
  /-- 0x0B ANC Immediate, R269. -/
  | ancImmediate0B (imm : Byte)
  /-- 0x0C NOP Absolute, R282. -/
  | nopAbsolute (addr : Addr)
  /-- 0x0D ORA Absolute, R173. -/
  | oraAbsolute (addr : Addr)
  /-- 0x0E ASL Absolute, R175. -/
  | aslAbsolute (addr : Addr)
  /-- 0x0F SLO Absolute, R265. -/
  | sloAbsolute (addr : Addr)
  /-- 0x10 BPL Relative, R215. -/
  | bpl (off : Byte)
  /-- 0x11 ORA Indirect_Y, R173. -/
  | oraIndirectY (zp : Byte)
  /-- 0x13 SLO Indirect_Y, R265. -/
  | sloIndirectY (zp : Byte)
  /-- 0x14 NOP ZeroPage_X, R282. -/
  | nopZeroPageX14 (zp : Byte)
  /-- 0x15 ORA ZeroPage_X, R173. -/
  | oraZeroPageX (zp : Byte)
  /-- 0x16 ASL ZeroPage_X, R175. -/
  | aslZeroPageX (zp : Byte)
  /-- 0x17 SLO ZeroPage_X, R265. -/
  | sloZeroPageX (zp : Byte)
  /-- 0x19 ORA Absolute_Y, R173. -/
  | oraAbsoluteY (addr : Addr)
  /-- 0x1B SLO Absolute_Y, R265. -/
  | sloAbsoluteY (addr : Addr)
  /-- 0x1C NOP Absolute_X, R282. -/
  | nopAbsoluteX1C (addr : Addr)
  /-- 0x1D ORA Absolute_X, R173. -/
  | oraAbsoluteX (addr : Addr)
  /-- 0x1E ASL Absolute_X, R175. -/
  | aslAbsoluteX (addr : Addr)
  /-- 0x1F SLO Absolute_X, R265. -/
  | sloAbsoluteX (addr : Addr)
  /-- 0x20 JSR Absolute, R221. -/
  | jsrAbsolute (addr : Addr)
  /-- 0x21 AND Indirect_X, R172. -/
  | andIndirectX (zp : Byte)
  /-- 0x23 RLA Indirect_X, R266. -/
  | rlaIndirectX (zp : Byte)
  /-- 0x24 BIT ZeroPage, R188. -/
  | bitZeroPage (zp : Byte)
  /-- 0x25 AND ZeroPage, R172. -/
  | andZeroPage (zp : Byte)
  /-- 0x26 ROL ZeroPage, R177. -/
  | rolZeroPage (zp : Byte)
  /-- 0x27 RLA ZeroPage, R266. -/
  | rlaZeroPage (zp : Byte)
  /-- 0x29 AND Immediate, R172. -/
  | andImmediate (imm : Byte)
  /-- 0x2B ANC Immediate, R269. -/
  | ancImmediate2B (imm : Byte)
  /-- 0x2C BIT Absolute, R188. -/
  | bitAbsolute (addr : Addr)
  /-- 0x2D AND Absolute, R172. -/
  | andAbsolute (addr : Addr)
  /-- 0x2E ROL Absolute, R177. -/
  | rolAbsolute (addr : Addr)
  /-- 0x2F RLA Absolute, R266. -/
  | rlaAbsolute (addr : Addr)
  /-- 0x30 BMI Relative, R216. -/
  | bmi (off : Byte)
  /-- 0x31 AND Indirect_Y, R172. -/
  | andIndirectY (zp : Byte)
  /-- 0x33 RLA Indirect_Y, R266. -/
  | rlaIndirectY (zp : Byte)
  /-- 0x34 NOP ZeroPage_X, R282. -/
  | nopZeroPageX34 (zp : Byte)
  /-- 0x35 AND ZeroPage_X, R172. -/
  | andZeroPageX (zp : Byte)
  /-- 0x36 ROL ZeroPage_X, R177. -/
  | rolZeroPageX (zp : Byte)
  /-- 0x37 RLA ZeroPage_X, R266. -/
  | rlaZeroPageX (zp : Byte)
  /-- 0x39 AND Absolute_Y, R172. -/
  | andAbsoluteY (addr : Addr)
  /-- 0x3B RLA Absolute_Y, R266. -/
  | rlaAbsoluteY (addr : Addr)
  /-- 0x3C NOP Absolute_X, R282. -/
  | nopAbsoluteX3C (addr : Addr)
  /-- 0x3D AND Absolute_X, R172. -/
  | andAbsoluteX (addr : Addr)
  /-- 0x3E ROL Absolute_X, R177. -/
  | rolAbsoluteX (addr : Addr)
  /-- 0x3F RLA Absolute_X, R266. -/
  | rlaAbsoluteX (addr : Addr)
  /-- 0x41 EOR Indirect_X, R174. -/
  | eorIndirectX (zp : Byte)
  /-- 0x43 SRE Indirect_X, R267. -/
  | sreIndirectX (zp : Byte)
  /-- 0x44 NOP ZeroPage, R282. -/
  | nopZeroPage44 (zp : Byte)
  /-- 0x45 EOR ZeroPage, R174. -/
  | eorZeroPage (zp : Byte)
  /-- 0x46 LSR ZeroPage, R176. -/
  | lsrZeroPage (zp : Byte)
  /-- 0x47 SRE ZeroPage, R267. -/
  | sreZeroPage (zp : Byte)
  /-- 0x49 EOR Immediate, R174. -/
  | eorImmediate (imm : Byte)
  /-- 0x4B ALR Immediate, R270. -/
  | alrImmediate (imm : Byte)
  /-- 0x4C JMP Absolute, R219. -/
  | jmpAbsolute (addr : Addr)
  /-- 0x4D EOR Absolute, R174. -/
  | eorAbsolute (addr : Addr)
  /-- 0x4E LSR Absolute, R176. -/
  | lsrAbsolute (addr : Addr)
  /-- 0x4F SRE Absolute, R267. -/
  | sreAbsolute (addr : Addr)
  /-- 0x50 BVC Relative, R217. -/
  | bvc (off : Byte)
  /-- 0x51 EOR Indirect_Y, R174. -/
  | eorIndirectY (zp : Byte)
  /-- 0x53 SRE Indirect_Y, R267. -/
  | sreIndirectY (zp : Byte)
  /-- 0x54 NOP ZeroPage_X, R282. -/
  | nopZeroPageX54 (zp : Byte)
  /-- 0x55 EOR ZeroPage_X, R174. -/
  | eorZeroPageX (zp : Byte)
  /-- 0x56 LSR ZeroPage_X, R176. -/
  | lsrZeroPageX (zp : Byte)
  /-- 0x57 SRE ZeroPage_X, R267. -/
  | sreZeroPageX (zp : Byte)
  /-- 0x59 EOR Absolute_Y, R174. -/
  | eorAbsoluteY (addr : Addr)
  /-- 0x5B SRE Absolute_Y, R267. -/
  | sreAbsoluteY (addr : Addr)
  /-- 0x5C NOP Absolute_X, R282. -/
  | nopAbsoluteX5C (addr : Addr)
  /-- 0x5D EOR Absolute_X, R174. -/
  | eorAbsoluteX (addr : Addr)
  /-- 0x5E LSR Absolute_X, R176. -/
  | lsrAbsoluteX (addr : Addr)
  /-- 0x5F SRE Absolute_X, R267. -/
  | sreAbsoluteX (addr : Addr)
  /-- 0x61 ADC Indirect_X, R170. -/
  | adcIndirectX (zp : Byte)
  /-- 0x63 RRA Indirect_X, R268. -/
  | rraIndirectX (zp : Byte)
  /-- 0x64 NOP ZeroPage, R282. -/
  | nopZeroPage64 (zp : Byte)
  /-- 0x65 ADC ZeroPage, R170. -/
  | adcZeroPage (zp : Byte)
  /-- 0x66 ROR ZeroPage, R178. -/
  | rorZeroPage (zp : Byte)
  /-- 0x67 RRA ZeroPage, R268. -/
  | rraZeroPage (zp : Byte)
  /-- 0x69 ADC Immediate, R170. -/
  | adcImmediate (imm : Byte)
  /-- 0x6B ARR Immediate, R271. -/
  | arrImmediate (imm : Byte)
  /-- 0x6C JMP Indirect, R220. -/
  | jmpIndirect (ptr : Addr)
  /-- 0x6D ADC Absolute, R170. -/
  | adcAbsolute (addr : Addr)
  /-- 0x6E ROR Absolute, R178. -/
  | rorAbsolute (addr : Addr)
  /-- 0x6F RRA Absolute, R268. -/
  | rraAbsolute (addr : Addr)
  /-- 0x70 BVS Relative, R218. -/
  | bvs (off : Byte)
  /-- 0x71 ADC Indirect_Y, R170. -/
  | adcIndirectY (zp : Byte)
  /-- 0x73 RRA Indirect_Y, R268. -/
  | rraIndirectY (zp : Byte)
  /-- 0x74 NOP ZeroPage_X, R282. -/
  | nopZeroPageX74 (zp : Byte)
  /-- 0x75 ADC ZeroPage_X, R170. -/
  | adcZeroPageX (zp : Byte)
  /-- 0x76 ROR ZeroPage_X, R178. -/
  | rorZeroPageX (zp : Byte)
  /-- 0x77 RRA ZeroPage_X, R268. -/
  | rraZeroPageX (zp : Byte)
  /-- 0x79 ADC Absolute_Y, R170. -/
  | adcAbsoluteY (addr : Addr)
  /-- 0x7B RRA Absolute_Y, R268. -/
  | rraAbsoluteY (addr : Addr)
  /-- 0x7C NOP Absolute_X, R282. -/
  | nopAbsoluteX7C (addr : Addr)
  /-- 0x7D ADC Absolute_X, R170. -/
  | adcAbsoluteX (addr : Addr)
  /-- 0x7E ROR Absolute_X, R178. -/
  | rorAbsoluteX (addr : Addr)
  /-- 0x7F RRA Absolute_X, R268. -/
  | rraAbsoluteX (addr : Addr)
  /-- 0x80 NOP Immediate, R282. -/
  | nopImmediate80 (imm : Byte)
  /-- 0x81 STA Indirect_X, R143. -/
  | staIndirectX (zp : Byte)
  /-- 0x82 NOP Immediate, R282. -/
  | nopImmediate82 (imm : Byte)
  /-- 0x83 SAX Indirect_X, R262. -/
  | saxIndirectX (zp : Byte)
  /-- 0x84 STY ZeroPage, R145. -/
  | styZeroPage (zp : Byte)
  /-- 0x85 STA ZeroPage, R143. -/
  | staZeroPage (zp : Byte)
  /-- 0x86 STX ZeroPage, R144. -/
  | stxZeroPage (zp : Byte)
  /-- 0x87 SAX ZeroPage, R262. -/
  | saxZeroPage (zp : Byte)
  /-- 0x89 NOP Immediate, R282. -/
  | nopImmediate89 (imm : Byte)
  /-- 0x8B XAA Immediate, R274. -/
  | xaaImmediate (imm : Byte)
  /-- 0x8C STY Absolute, R145. -/
  | styAbsolute (addr : Addr)
  /-- 0x8D STA Absolute, R143. -/
  | staAbsolute (addr : Addr)
  /-- 0x8E STX Absolute, R144. -/
  | stxAbsolute (addr : Addr)
  /-- 0x8F SAX Absolute, R262. -/
  | saxAbsolute (addr : Addr)
  /-- 0x90 BCC Relative, R211. -/
  | bcc (off : Byte)
  /-- 0x91 STA Indirect_Y, R143. -/
  | staIndirectY (zp : Byte)
  /-- 0x93 SHA Indirect_Y, R277. -/
  | shaIndirectY (zp : Byte)
  /-- 0x94 STY ZeroPage_X, R145. -/
  | styZeroPageX (zp : Byte)
  /-- 0x95 STA ZeroPage_X, R143. -/
  | staZeroPageX (zp : Byte)
  /-- 0x96 STX ZeroPage_Y, R144. -/
  | stxZeroPageY (zp : Byte)
  /-- 0x97 SAX ZeroPage_Y, R262. -/
  | saxZeroPageY (zp : Byte)
  /-- 0x99 STA Absolute_Y, R143. -/
  | staAbsoluteY (addr : Addr)
  /-- 0x9B TAS Absolute_Y, R276. -/
  | tasAbsoluteY (addr : Addr)
  /-- 0x9C SHY Absolute_X, R279. -/
  | shyAbsoluteX (addr : Addr)
  /-- 0x9D STA Absolute_X, R143. -/
  | staAbsoluteX (addr : Addr)
  /-- 0x9E SHX Absolute_Y, R278. -/
  | shxAbsoluteY (addr : Addr)
  /-- 0x9F SHA Absolute_Y, R277. -/
  | shaAbsoluteY (addr : Addr)
  /-- 0xA0 LDY Immediate, R142. -/
  | ldyImmediate (imm : Byte)
  /-- 0xA1 LDA Indirect_X, R140. -/
  | ldaIndirectX (zp : Byte)
  /-- 0xA2 LDX Immediate, R141. -/
  | ldxImmediate (imm : Byte)
  /-- 0xA3 LAX Indirect_X, R261. -/
  | laxIndirectX (zp : Byte)
  /-- 0xA4 LDY ZeroPage, R142. -/
  | ldyZeroPage (zp : Byte)
  /-- 0xA5 LDA ZeroPage, R140. -/
  | ldaZeroPage (zp : Byte)
  /-- 0xA6 LDX ZeroPage, R141. -/
  | ldxZeroPage (zp : Byte)
  /-- 0xA7 LAX ZeroPage, R261. -/
  | laxZeroPage (zp : Byte)
  /-- 0xA9 LDA Immediate, R140. -/
  | ldaImmediate (imm : Byte)
  /-- 0xAB LXA Immediate, R273. -/
  | lxaImmediate (imm : Byte)
  /-- 0xAC LDY Absolute, R142. -/
  | ldyAbsolute (addr : Addr)
  /-- 0xAD LDA Absolute, R140. -/
  | ldaAbsolute (addr : Addr)
  /-- 0xAE LDX Absolute, R141. -/
  | ldxAbsolute (addr : Addr)
  /-- 0xAF LAX Absolute, R261. -/
  | laxAbsolute (addr : Addr)
  /-- 0xB0 BCS Relative, R212. -/
  | bcs (off : Byte)
  /-- 0xB1 LDA Indirect_Y, R140. -/
  | ldaIndirectY (zp : Byte)
  /-- 0xB3 LAX Indirect_Y, R261. -/
  | laxIndirectY (zp : Byte)
  /-- 0xB4 LDY ZeroPage_X, R142. -/
  | ldyZeroPageX (zp : Byte)
  /-- 0xB5 LDA ZeroPage_X, R140. -/
  | ldaZeroPageX (zp : Byte)
  /-- 0xB6 LDX ZeroPage_Y, R141. -/
  | ldxZeroPageY (zp : Byte)
  /-- 0xB7 LAX ZeroPage_Y, R261. -/
  | laxZeroPageY (zp : Byte)
  /-- 0xB9 LDA Absolute_Y, R140. -/
  | ldaAbsoluteY (addr : Addr)
  /-- 0xBB LAS Absolute_Y, R275. -/
  | lasAbsoluteY (addr : Addr)
  /-- 0xBC LDY Absolute_X, R142. -/
  | ldyAbsoluteX (addr : Addr)
  /-- 0xBD LDA Absolute_X, R140. -/
  | ldaAbsoluteX (addr : Addr)
  /-- 0xBE LDX Absolute_Y, R141. -/
  | ldxAbsoluteY (addr : Addr)
  /-- 0xBF LAX Absolute_Y, R261. -/
  | laxAbsoluteY (addr : Addr)
  /-- 0xC0 CPY Immediate, R187. -/
  | cpyImmediate (imm : Byte)
  /-- 0xC1 CMP Indirect_X, R185. -/
  | cmpIndirectX (zp : Byte)
  /-- 0xC2 NOP Immediate, R282. -/
  | nopImmediateC2 (imm : Byte)
  /-- 0xC3 DCP Indirect_X, R263. -/
  | dcpIndirectX (zp : Byte)
  /-- 0xC4 CPY ZeroPage, R187. -/
  | cpyZeroPage (zp : Byte)
  /-- 0xC5 CMP ZeroPage, R185. -/
  | cmpZeroPage (zp : Byte)
  /-- 0xC6 DEC ZeroPage, R180. -/
  | decZeroPage (zp : Byte)
  /-- 0xC7 DCP ZeroPage, R263. -/
  | dcpZeroPage (zp : Byte)
  /-- 0xC9 CMP Immediate, R185. -/
  | cmpImmediate (imm : Byte)
  /-- 0xCB AXS Immediate, R272. -/
  | axsImmediate (imm : Byte)
  /-- 0xCC CPY Absolute, R187. -/
  | cpyAbsolute (addr : Addr)
  /-- 0xCD CMP Absolute, R185. -/
  | cmpAbsolute (addr : Addr)
  /-- 0xCE DEC Absolute, R180. -/
  | decAbsolute (addr : Addr)
  /-- 0xCF DCP Absolute, R263. -/
  | dcpAbsolute (addr : Addr)
  /-- 0xD0 BNE Relative, R214. -/
  | bne (off : Byte)
  /-- 0xD1 CMP Indirect_Y, R185. -/
  | cmpIndirectY (zp : Byte)
  /-- 0xD3 DCP Indirect_Y, R263. -/
  | dcpIndirectY (zp : Byte)
  /-- 0xD4 NOP ZeroPage_X, R282. -/
  | nopZeroPageXD4 (zp : Byte)
  /-- 0xD5 CMP ZeroPage_X, R185. -/
  | cmpZeroPageX (zp : Byte)
  /-- 0xD6 DEC ZeroPage_X, R180. -/
  | decZeroPageX (zp : Byte)
  /-- 0xD7 DCP ZeroPage_X, R263. -/
  | dcpZeroPageX (zp : Byte)
  /-- 0xD9 CMP Absolute_Y, R185. -/
  | cmpAbsoluteY (addr : Addr)
  /-- 0xDB DCP Absolute_Y, R263. -/
  | dcpAbsoluteY (addr : Addr)
  /-- 0xDC NOP Absolute_X, R282. -/
  | nopAbsoluteXDC (addr : Addr)
  /-- 0xDD CMP Absolute_X, R185. -/
  | cmpAbsoluteX (addr : Addr)
  /-- 0xDE DEC Absolute_X, R180. -/
  | decAbsoluteX (addr : Addr)
  /-- 0xDF DCP Absolute_X, R263. -/
  | dcpAbsoluteX (addr : Addr)
  /-- 0xE0 CPX Immediate, R186. -/
  | cpxImmediate (imm : Byte)
  /-- 0xE1 SBC Indirect_X, R171. -/
  | sbcIndirectX (zp : Byte)
  /-- 0xE2 NOP Immediate, R282. -/
  | nopImmediateE2 (imm : Byte)
  /-- 0xE3 ISC Indirect_X, R264. -/
  | iscIndirectX (zp : Byte)
  /-- 0xE4 CPX ZeroPage, R186. -/
  | cpxZeroPage (zp : Byte)
  /-- 0xE5 SBC ZeroPage, R171. -/
  | sbcZeroPage (zp : Byte)
  /-- 0xE6 INC ZeroPage, R179. -/
  | incZeroPage (zp : Byte)
  /-- 0xE7 ISC ZeroPage, R264. -/
  | iscZeroPage (zp : Byte)
  /-- 0xE9 SBC Immediate, R171. -/
  | sbcImmediateE9 (imm : Byte)
  /-- 0xEB SBC Immediate, R280. -/
  | sbcImmediateEB (imm : Byte)
  /-- 0xEC CPX Absolute, R186. -/
  | cpxAbsolute (addr : Addr)
  /-- 0xED SBC Absolute, R171. -/
  | sbcAbsolute (addr : Addr)
  /-- 0xEE INC Absolute, R179. -/
  | incAbsolute (addr : Addr)
  /-- 0xEF ISC Absolute, R264. -/
  | iscAbsolute (addr : Addr)
  /-- 0xF0 BEQ Relative, R213. -/
  | beq (off : Byte)
  /-- 0xF1 SBC Indirect_Y, R171. -/
  | sbcIndirectY (zp : Byte)
  /-- 0xF3 ISC Indirect_Y, R264. -/
  | iscIndirectY (zp : Byte)
  /-- 0xF4 NOP ZeroPage_X, R282. -/
  | nopZeroPageXF4 (zp : Byte)
  /-- 0xF5 SBC ZeroPage_X, R171. -/
  | sbcZeroPageX (zp : Byte)
  /-- 0xF6 INC ZeroPage_X, R179. -/
  | incZeroPageX (zp : Byte)
  /-- 0xF7 ISC ZeroPage_X, R264. -/
  | iscZeroPageX (zp : Byte)
  /-- 0xF9 SBC Absolute_Y, R171. -/
  | sbcAbsoluteY (addr : Addr)
  /-- 0xFB ISC Absolute_Y, R264. -/
  | iscAbsoluteY (addr : Addr)
  /-- 0xFC NOP Absolute_X, R282. -/
  | nopAbsoluteXFC (addr : Addr)
  /-- 0xFD SBC Absolute_X, R171. -/
  | sbcAbsoluteX (addr : Addr)
  /-- 0xFE INC Absolute_X, R179. -/
  | incAbsoluteX (addr : Addr)
  /-- 0xFF ISC Absolute_X, R264. -/
  | iscAbsoluteX (addr : Addr)
  /-- 0x00 BRK Implied, R236. -/
  | brk
  /-- 0x02 KIL Implied, R283. -/
  | kil02
  /-- 0x08 PHP Implied, R225. -/
  | php
  /-- 0x0A ASL Accumulator, R175. -/
  | aslAccumulator
  /-- 0x12 KIL Implied, R283. -/
  | kil12
  /-- 0x18 CLC Implied, R229. -/
  | clc
  /-- 0x1A NOP Implied, R281. -/
  | nop1A
  /-- 0x22 KIL Implied, R283. -/
  | kil22
  /-- 0x28 PLP Implied, R226. -/
  | plp
  /-- 0x2A ROL Accumulator, R177. -/
  | rolAccumulator
  /-- 0x32 KIL Implied, R283. -/
  | kil32
  /-- 0x38 SEC Implied, R228. -/
  | sec
  /-- 0x3A NOP Implied, R281. -/
  | nop3A
  /-- 0x40 RTI Implied, R227. -/
  | rti
  /-- 0x42 KIL Implied, R283. -/
  | kil42
  /-- 0x48 PHA Implied, R223. -/
  | pha
  /-- 0x4A LSR Accumulator, R176. -/
  | lsrAccumulator
  /-- 0x52 KIL Implied, R283. -/
  | kil52
  /-- 0x58 CLI Implied, R231. -/
  | cli
  /-- 0x5A NOP Implied, R281. -/
  | nop5A
  /-- 0x60 RTS Implied, R222. -/
  | rts
  /-- 0x62 KIL Implied, R283. -/
  | kil62
  /-- 0x68 PLA Implied, R224. -/
  | pla
  /-- 0x6A ROR Accumulator, R178. -/
  | rorAccumulator
  /-- 0x72 KIL Implied, R283. -/
  | kil72
  /-- 0x78 SEI Implied, R230. -/
  | sei
  /-- 0x7A NOP Implied, R281. -/
  | nop7A
  /-- 0x88 DEY Implied, R184. -/
  | dey
  /-- 0x8A TXA Implied, R148. -/
  | txa
  /-- 0x92 KIL Implied, R283. -/
  | kil92
  /-- 0x98 TYA Implied, R149. -/
  | tya
  /-- 0x9A TXS Implied, R151. -/
  | txs
  /-- 0xA8 TAY Implied, R147. -/
  | tay
  /-- 0xAA TAX Implied, R146. -/
  | tax
  /-- 0xB2 KIL Implied, R283. -/
  | kilB2
  /-- 0xB8 CLV Implied, R234. -/
  | clv
  /-- 0xBA TSX Implied, R150. -/
  | tsx
  /-- 0xC8 INY Implied, R182. -/
  | iny
  /-- 0xCA DEX Implied, R183. -/
  | dex
  /-- 0xD2 KIL Implied, R283. -/
  | kilD2
  /-- 0xD8 CLD Implied, R233. -/
  | cld
  /-- 0xDA NOP Implied, R281. -/
  | nopDA
  /-- 0xE8 INX Implied, R181. -/
  | inx
  /-- 0xEA NOP Implied, R235. -/
  | nopEA
  /-- 0xF2 KIL Implied, R283. -/
  | kilF2
  /-- 0xF8 SED Implied, R232. -/
  | sed
  /-- 0xFA NOP Implied, R281. -/
  | nopFA
  deriving DecidableEq, Repr

end Sys2Proof
end

