-- ==== Sys2Proof/Machine/Formats.lean ====
section
/-! DEFINITION. The three instruction formats: how long an instruction of each mode is, and the operand
bytes of each operand form (R80, R81, R84). -/

namespace Sys2Proof

/-- The instruction length of a mode: formats F1, F2 and F3 (R81). -/
def Mode.length : Mode → Nat
  | .accumulator | .implied => 1
  | .immediate | .zeroPage | .zeroPageX | .zeroPageY | .indirectX | .indirectY | .relative => 2
  | .absolute | .absoluteX | .absoluteY | .indirect => 3

/-- The addressing mode of an operand form. -/
def Operand.mode : Operand → Mode
  | .immediate _ => .immediate
  | .zeroPage _ => .zeroPage
  | .zeroPageX _ => .zeroPageX
  | .zeroPageY _ => .zeroPageY
  | .absolute _ => .absolute
  | .absoluteX _ => .absoluteX
  | .absoluteY _ => .absoluteY
  | .indirect _ => .indirect
  | .indirectX _ => .indirectX
  | .indirectY _ => .indirectY
  | .relative _ => .relative
  | .accumulator => .accumulator
  | .implied => .implied

/-- The operand bytes that follow the opcode byte; a 16-bit operand has its low byte first (R64, R81). -/
def Operand.bytes : Operand → List Byte
  | .immediate b | .zeroPage b | .zeroPageX b | .zeroPageY b | .indirectX b | .indirectY b
  | .relative b => [b]
  | .absolute w | .absoluteX w | .absoluteY w | .indirect w => [lo w, hi w]
  | .accumulator | .implied => []

/-- The operand a mode assembles from the bytes `b1` and `b2` after the opcode (R84). -/
def Operand.assemble (m : Mode) (b1 b2 : Byte) : Operand :=
  match m with
  | .immediate => .immediate b1
  | .zeroPage => .zeroPage b1
  | .zeroPageX => .zeroPageX b1
  | .zeroPageY => .zeroPageY b1
  | .absolute => .absolute (word b2 b1)
  | .absoluteX => .absoluteX (word b2 b1)
  | .absoluteY => .absoluteY (word b2 b1)
  | .indirect => .indirect (word b2 b1)
  | .indirectX => .indirectX b1
  | .indirectY => .indirectY b1
  | .relative => .relative b1
  | .accumulator => .accumulator
  | .implied => .implied

end Sys2Proof
end

