-- ==== Sys2Proof/Machine/Operands.lean ====
section
/-! DEFINITION. The address resolver for the 13 modes, the operand read and the write-back (R108 to
R121). All of it runs with `PC = snap`, the address of the first operand byte. -/

namespace Sys2Proof.Machine

/-- The little-endian pointer at a zero-page location; its high byte stays in page 0 (R115, R116, D7). -/
def State.zeroPagePointer (s : State) (p : Byte) : Addr :=
  word (s.readByte (zext16 (p + 1))) (s.readByte (zext16 p))

/-- `Resolve(mode)` on the operand of the instruction (R108 to R118); none for Accumulator and Implied. -/
def resolve (o : Operand) (s : State) : Option Addr :=
  match o with
  | .immediate _ => some s.pc
  | .zeroPage zp => some (zext16 zp)
  | .zeroPageX zp => some (zext16 (zp + s.x))
  | .zeroPageY zp => some (zext16 (zp + s.y))
  | .absolute addr => some addr
  | .absoluteX addr => some (addr + zext16 s.x)
  | .absoluteY addr => some (addr + zext16 s.y)
  | .indirect ptr =>
    some (word (s.readByte ((ptr &&& 0xFF00) ||| zext16 (lo ptr + 1))) (s.readByte ptr))
  | .indirectX zp => some (s.zeroPagePointer (zp + s.x))
  | .indirectY zp => some (s.zeroPagePointer zp + zext16 s.y)
  | .relative off => some (s.pc + 1 + sext16 off)
  | .accumulator => none
  | .implied => none

/-- The operand that stands in memory at `PC = snap` for a mode (R84, R101): what `Resolve` reads there. -/
def fetchOperand (m : Mode) (s : State) : Operand :=
  Operand.assemble m (s.readByte s.pc) (s.readByte (s.pc + 1))

/-- `Resolve(mode)` reading its operand bytes from memory itself (R108). A step has read the same bytes
when it decoded the instruction, before any of its writes (R107). -/
def resolveAt (m : Mode) (s : State) : Option Addr := resolve (fetchOperand m s) s

/-- `Operand(mode, ea)` (R120): `A` for Accumulator and Implied, else the byte at `ea`. For Immediate
that is the byte at `snap`, which the instruction carries. -/
def readOperand (o : Operand) (s : State) : Byte :=
  match o, resolve o s with
  | .immediate imm, _ => imm
  | _, some ea => s.readByte ea
  | _, none => s.a

/-- `WriteBack(mode, ea, v)` by the instruction with opcode byte `op` (R121): `A` for Accumulator, else
the byte at `ea`. The stores, which have no Accumulator form, use it as their `MemWrite(ea, 1, v)`. -/
def writeBack (op : Byte) (o : Operand) (v : Byte) (s : State) : Result :=
  match resolve o s with
  | some ea => writeByte op ea v s
  | none => .next (s.setA v)

/-- `PC <- Resolve(mode)`: the transfer of the branches and jumps. -/
def jumpTo (o : Operand) (s : State) : Result :=
  match resolve o s with
  | some target => .next (s.setPC target)
  | none => .next s

/-- The base address of an indexed operand whose effective address is `ea` and whose index register holds
`index`, and its high byte `H` (spec/44_undocumented.md section 4, D14). -/
def baseHigh (ea : Addr) (index : Byte) : Byte := hi (ea - zext16 index)

end Sys2Proof.Machine
end

