-- ==== Sys2Proof/Machine/Alu.lean ====
section
/-! DEFINITION. Arithmetic, logic, shifts, increments, compares and the bit test (spec/42_alu.md). Each
meaning runs with `PC = snap`. -/

namespace Sys2Proof.Machine

/-- ADC (R170). -/
def adc (o : Operand) (s : State) : Result := .next (s.addPath (readOperand o s))

/-- SBC (R171): the add path on the complemented operand. -/
def sbc (o : Operand) (s : State) : Result := .next (s.addPath (~~~readOperand o s))

/-- AND (R172). -/
def andA (o : Operand) (s : State) : Result :=
  .next ((s.setA (s.a &&& readOperand o s)).setZN (s.a &&& readOperand o s))

/-- ORA (R173). -/
def ora (o : Operand) (s : State) : Result :=
  .next ((s.setA (s.a ||| readOperand o s)).setZN (s.a ||| readOperand o s))

/-- EOR (R174). -/
def eor (o : Operand) (s : State) : Result :=
  .next ((s.setA (s.a ^^^ readOperand o s)).setZN (s.a ^^^ readOperand o s))

/-- Writes back a shifted byte, then sets C to the bit shifted out and Z and N from the byte: the common
rule of the four shifts (spec/42_alu.md section 3). -/
def shiftBack (op : Byte) (o : Operand) (out : Byte × Bool) (s : State) : Result :=
  (writeBack op o out.1 s).andThen fun t => (t.setFlag .C out.2).setZN out.1

/-- ASL (R175). -/
def asl (op : Byte) (o : Operand) (s : State) : Result := shiftBack op o (shiftLeft (readOperand o s)) s

/-- LSR (R176). -/
def lsr (op : Byte) (o : Operand) (s : State) : Result := shiftBack op o (shiftRight (readOperand o s)) s

/-- ROL (R177). -/
def rol (op : Byte) (o : Operand) (s : State) : Result :=
  shiftBack op o (rotateLeft (readOperand o s) (s.flag .C)) s

/-- ROR (R178). -/
def ror (op : Byte) (o : Operand) (s : State) : Result :=
  shiftBack op o (rotateRight (readOperand o s) (s.flag .C)) s

/-- INC (R179). -/
def inc (op : Byte) (o : Operand) (s : State) : Result :=
  (writeBack op o (readOperand o s + 1) s).andThen fun t => t.setZN (readOperand o s + 1)

/-- DEC (R180). -/
def dec (op : Byte) (o : Operand) (s : State) : Result :=
  (writeBack op o (readOperand o s - 1) s).andThen fun t => t.setZN (readOperand o s - 1)

/-- CMP (R185). -/
def cmp (o : Operand) (s : State) : Result := .next (s.comparePath s.a (readOperand o s))

/-- CPX (R186). -/
def cpx (o : Operand) (s : State) : Result := .next (s.comparePath s.x (readOperand o s))

/-- CPY (R187). -/
def cpy (o : Operand) (s : State) : Result := .next (s.comparePath s.y (readOperand o s))

/-- BIT (R188): Z from `A & M`, N and V copied from the operand. -/
def bit (o : Operand) (s : State) : Result :=
  .next (((s.setFlag .Z ((s.a &&& readOperand o s) == 0)).setFlag .N ((readOperand o s).getLsbD 7)).setFlag
    .V ((readOperand o s).getLsbD 6))

/-- 0x61 ADC Indirect_X (R170). -/
def execAdcIndirectX (zp : Byte) (s : State) : Result := adc (.indirectX zp) s

/-- 0x65 ADC ZeroPage (R170). -/
def execAdcZeroPage (zp : Byte) (s : State) : Result := adc (.zeroPage zp) s

/-- 0x69 ADC Immediate (R170). -/
def execAdcImmediate (imm : Byte) (s : State) : Result := adc (.immediate imm) s

/-- 0x6D ADC Absolute (R170). -/
def execAdcAbsolute (addr : Addr) (s : State) : Result := adc (.absolute addr) s

/-- 0x71 ADC Indirect_Y (R170). -/
def execAdcIndirectY (zp : Byte) (s : State) : Result := adc (.indirectY zp) s

/-- 0x75 ADC ZeroPage_X (R170). -/
def execAdcZeroPageX (zp : Byte) (s : State) : Result := adc (.zeroPageX zp) s

/-- 0x79 ADC Absolute_Y (R170). -/
def execAdcAbsoluteY (addr : Addr) (s : State) : Result := adc (.absoluteY addr) s

/-- 0x7D ADC Absolute_X (R170). -/
def execAdcAbsoluteX (addr : Addr) (s : State) : Result := adc (.absoluteX addr) s

/-- 0xE1 SBC Indirect_X (R171). -/
def execSbcIndirectX (zp : Byte) (s : State) : Result := sbc (.indirectX zp) s

/-- 0xE5 SBC ZeroPage (R171). -/
def execSbcZeroPage (zp : Byte) (s : State) : Result := sbc (.zeroPage zp) s

/-- 0xE9 SBC Immediate (R171). -/
def execSbcImmediateE9 (imm : Byte) (s : State) : Result := sbc (.immediate imm) s

/-- 0xEB SBC Immediate (R280). -/
def execSbcImmediateEB (imm : Byte) (s : State) : Result := sbc (.immediate imm) s

/-- 0xED SBC Absolute (R171). -/
def execSbcAbsolute (addr : Addr) (s : State) : Result := sbc (.absolute addr) s

/-- 0xF1 SBC Indirect_Y (R171). -/
def execSbcIndirectY (zp : Byte) (s : State) : Result := sbc (.indirectY zp) s

/-- 0xF5 SBC ZeroPage_X (R171). -/
def execSbcZeroPageX (zp : Byte) (s : State) : Result := sbc (.zeroPageX zp) s

/-- 0xF9 SBC Absolute_Y (R171). -/
def execSbcAbsoluteY (addr : Addr) (s : State) : Result := sbc (.absoluteY addr) s

/-- 0xFD SBC Absolute_X (R171). -/
def execSbcAbsoluteX (addr : Addr) (s : State) : Result := sbc (.absoluteX addr) s

/-- 0x21 AND Indirect_X (R172). -/
def execAndIndirectX (zp : Byte) (s : State) : Result := andA (.indirectX zp) s

/-- 0x25 AND ZeroPage (R172). -/
def execAndZeroPage (zp : Byte) (s : State) : Result := andA (.zeroPage zp) s

/-- 0x29 AND Immediate (R172). -/
def execAndImmediate (imm : Byte) (s : State) : Result := andA (.immediate imm) s

/-- 0x2D AND Absolute (R172). -/
def execAndAbsolute (addr : Addr) (s : State) : Result := andA (.absolute addr) s

/-- 0x31 AND Indirect_Y (R172). -/
def execAndIndirectY (zp : Byte) (s : State) : Result := andA (.indirectY zp) s

/-- 0x35 AND ZeroPage_X (R172). -/
def execAndZeroPageX (zp : Byte) (s : State) : Result := andA (.zeroPageX zp) s

/-- 0x39 AND Absolute_Y (R172). -/
def execAndAbsoluteY (addr : Addr) (s : State) : Result := andA (.absoluteY addr) s

/-- 0x3D AND Absolute_X (R172). -/
def execAndAbsoluteX (addr : Addr) (s : State) : Result := andA (.absoluteX addr) s

/-- 0x01 ORA Indirect_X (R173). -/
def execOraIndirectX (zp : Byte) (s : State) : Result := ora (.indirectX zp) s

/-- 0x05 ORA ZeroPage (R173). -/
def execOraZeroPage (zp : Byte) (s : State) : Result := ora (.zeroPage zp) s

/-- 0x09 ORA Immediate (R173). -/
def execOraImmediate (imm : Byte) (s : State) : Result := ora (.immediate imm) s

/-- 0x0D ORA Absolute (R173). -/
def execOraAbsolute (addr : Addr) (s : State) : Result := ora (.absolute addr) s

/-- 0x11 ORA Indirect_Y (R173). -/
def execOraIndirectY (zp : Byte) (s : State) : Result := ora (.indirectY zp) s

/-- 0x15 ORA ZeroPage_X (R173). -/
def execOraZeroPageX (zp : Byte) (s : State) : Result := ora (.zeroPageX zp) s

/-- 0x19 ORA Absolute_Y (R173). -/
def execOraAbsoluteY (addr : Addr) (s : State) : Result := ora (.absoluteY addr) s

/-- 0x1D ORA Absolute_X (R173). -/
def execOraAbsoluteX (addr : Addr) (s : State) : Result := ora (.absoluteX addr) s

/-- 0x41 EOR Indirect_X (R174). -/
def execEorIndirectX (zp : Byte) (s : State) : Result := eor (.indirectX zp) s

/-- 0x45 EOR ZeroPage (R174). -/
def execEorZeroPage (zp : Byte) (s : State) : Result := eor (.zeroPage zp) s

/-- 0x49 EOR Immediate (R174). -/
def execEorImmediate (imm : Byte) (s : State) : Result := eor (.immediate imm) s

/-- 0x4D EOR Absolute (R174). -/
def execEorAbsolute (addr : Addr) (s : State) : Result := eor (.absolute addr) s

/-- 0x51 EOR Indirect_Y (R174). -/
def execEorIndirectY (zp : Byte) (s : State) : Result := eor (.indirectY zp) s

/-- 0x55 EOR ZeroPage_X (R174). -/
def execEorZeroPageX (zp : Byte) (s : State) : Result := eor (.zeroPageX zp) s

/-- 0x59 EOR Absolute_Y (R174). -/
def execEorAbsoluteY (addr : Addr) (s : State) : Result := eor (.absoluteY addr) s

/-- 0x5D EOR Absolute_X (R174). -/
def execEorAbsoluteX (addr : Addr) (s : State) : Result := eor (.absoluteX addr) s

/-- 0x06 ASL ZeroPage (R175). -/
def execAslZeroPage (zp : Byte) (s : State) : Result := asl 0x06 (.zeroPage zp) s

/-- 0x0A ASL Accumulator (R175). -/
def execAslAccumulator (s : State) : Result := asl 0x0A .accumulator s

/-- 0x0E ASL Absolute (R175). -/
def execAslAbsolute (addr : Addr) (s : State) : Result := asl 0x0E (.absolute addr) s

/-- 0x16 ASL ZeroPage_X (R175). -/
def execAslZeroPageX (zp : Byte) (s : State) : Result := asl 0x16 (.zeroPageX zp) s

/-- 0x1E ASL Absolute_X (R175). -/
def execAslAbsoluteX (addr : Addr) (s : State) : Result := asl 0x1E (.absoluteX addr) s

/-- 0x46 LSR ZeroPage (R176). -/
def execLsrZeroPage (zp : Byte) (s : State) : Result := lsr 0x46 (.zeroPage zp) s

/-- 0x4A LSR Accumulator (R176). -/
def execLsrAccumulator (s : State) : Result := lsr 0x4A .accumulator s

/-- 0x4E LSR Absolute (R176). -/
def execLsrAbsolute (addr : Addr) (s : State) : Result := lsr 0x4E (.absolute addr) s

/-- 0x56 LSR ZeroPage_X (R176). -/
def execLsrZeroPageX (zp : Byte) (s : State) : Result := lsr 0x56 (.zeroPageX zp) s

/-- 0x5E LSR Absolute_X (R176). -/
def execLsrAbsoluteX (addr : Addr) (s : State) : Result := lsr 0x5E (.absoluteX addr) s

/-- 0x26 ROL ZeroPage (R177). -/
def execRolZeroPage (zp : Byte) (s : State) : Result := rol 0x26 (.zeroPage zp) s

/-- 0x2A ROL Accumulator (R177). -/
def execRolAccumulator (s : State) : Result := rol 0x2A .accumulator s

/-- 0x2E ROL Absolute (R177). -/
def execRolAbsolute (addr : Addr) (s : State) : Result := rol 0x2E (.absolute addr) s

/-- 0x36 ROL ZeroPage_X (R177). -/
def execRolZeroPageX (zp : Byte) (s : State) : Result := rol 0x36 (.zeroPageX zp) s

/-- 0x3E ROL Absolute_X (R177). -/
def execRolAbsoluteX (addr : Addr) (s : State) : Result := rol 0x3E (.absoluteX addr) s

/-- 0x66 ROR ZeroPage (R178). -/
def execRorZeroPage (zp : Byte) (s : State) : Result := ror 0x66 (.zeroPage zp) s

/-- 0x6A ROR Accumulator (R178). -/
def execRorAccumulator (s : State) : Result := ror 0x6A .accumulator s

/-- 0x6E ROR Absolute (R178). -/
def execRorAbsolute (addr : Addr) (s : State) : Result := ror 0x6E (.absolute addr) s

/-- 0x76 ROR ZeroPage_X (R178). -/
def execRorZeroPageX (zp : Byte) (s : State) : Result := ror 0x76 (.zeroPageX zp) s

/-- 0x7E ROR Absolute_X (R178). -/
def execRorAbsoluteX (addr : Addr) (s : State) : Result := ror 0x7E (.absoluteX addr) s

/-- 0xE6 INC ZeroPage (R179). -/
def execIncZeroPage (zp : Byte) (s : State) : Result := inc 0xE6 (.zeroPage zp) s

/-- 0xEE INC Absolute (R179). -/
def execIncAbsolute (addr : Addr) (s : State) : Result := inc 0xEE (.absolute addr) s

/-- 0xF6 INC ZeroPage_X (R179). -/
def execIncZeroPageX (zp : Byte) (s : State) : Result := inc 0xF6 (.zeroPageX zp) s

/-- 0xFE INC Absolute_X (R179). -/
def execIncAbsoluteX (addr : Addr) (s : State) : Result := inc 0xFE (.absoluteX addr) s

/-- 0xC6 DEC ZeroPage (R180). -/
def execDecZeroPage (zp : Byte) (s : State) : Result := dec 0xC6 (.zeroPage zp) s

/-- 0xCE DEC Absolute (R180). -/
def execDecAbsolute (addr : Addr) (s : State) : Result := dec 0xCE (.absolute addr) s

/-- 0xD6 DEC ZeroPage_X (R180). -/
def execDecZeroPageX (zp : Byte) (s : State) : Result := dec 0xD6 (.zeroPageX zp) s

/-- 0xDE DEC Absolute_X (R180). -/
def execDecAbsoluteX (addr : Addr) (s : State) : Result := dec 0xDE (.absoluteX addr) s

/-- INX (R181). -/
def execInx (s : State) : Result := .next ((s.setX (s.x + 1)).setZN (s.x + 1))

/-- INY (R182). -/
def execIny (s : State) : Result := .next ((s.setY (s.y + 1)).setZN (s.y + 1))

/-- DEX (R183). -/
def execDex (s : State) : Result := .next ((s.setX (s.x - 1)).setZN (s.x - 1))

/-- DEY (R184). -/
def execDey (s : State) : Result := .next ((s.setY (s.y - 1)).setZN (s.y - 1))

/-- 0xC1 CMP Indirect_X (R185). -/
def execCmpIndirectX (zp : Byte) (s : State) : Result := cmp (.indirectX zp) s

/-- 0xC5 CMP ZeroPage (R185). -/
def execCmpZeroPage (zp : Byte) (s : State) : Result := cmp (.zeroPage zp) s

/-- 0xC9 CMP Immediate (R185). -/
def execCmpImmediate (imm : Byte) (s : State) : Result := cmp (.immediate imm) s

/-- 0xCD CMP Absolute (R185). -/
def execCmpAbsolute (addr : Addr) (s : State) : Result := cmp (.absolute addr) s

/-- 0xD1 CMP Indirect_Y (R185). -/
def execCmpIndirectY (zp : Byte) (s : State) : Result := cmp (.indirectY zp) s

/-- 0xD5 CMP ZeroPage_X (R185). -/
def execCmpZeroPageX (zp : Byte) (s : State) : Result := cmp (.zeroPageX zp) s

/-- 0xD9 CMP Absolute_Y (R185). -/
def execCmpAbsoluteY (addr : Addr) (s : State) : Result := cmp (.absoluteY addr) s

/-- 0xDD CMP Absolute_X (R185). -/
def execCmpAbsoluteX (addr : Addr) (s : State) : Result := cmp (.absoluteX addr) s

/-- 0xE0 CPX Immediate (R186). -/
def execCpxImmediate (imm : Byte) (s : State) : Result := cpx (.immediate imm) s

/-- 0xE4 CPX ZeroPage (R186). -/
def execCpxZeroPage (zp : Byte) (s : State) : Result := cpx (.zeroPage zp) s

/-- 0xEC CPX Absolute (R186). -/
def execCpxAbsolute (addr : Addr) (s : State) : Result := cpx (.absolute addr) s

/-- 0xC0 CPY Immediate (R187). -/
def execCpyImmediate (imm : Byte) (s : State) : Result := cpy (.immediate imm) s

/-- 0xC4 CPY ZeroPage (R187). -/
def execCpyZeroPage (zp : Byte) (s : State) : Result := cpy (.zeroPage zp) s

/-- 0xCC CPY Absolute (R187). -/
def execCpyAbsolute (addr : Addr) (s : State) : Result := cpy (.absolute addr) s

/-- 0x24 BIT ZeroPage (R188). -/
def execBitZeroPage (zp : Byte) (s : State) : Result := bit (.zeroPage zp) s

/-- 0x2C BIT Absolute (R188). -/
def execBitAbsolute (addr : Addr) (s : State) : Result := bit (.absolute addr) s

end Sys2Proof.Machine
end

