-- ==== Sys2Proof/Machine/Control.lean ====
section
/-! DEFINITION. Branches, jumps, subroutines, the stack, flag operations, the documented NOP and BRK
(spec/43_control_stack_flags.md). Each meaning runs with `PC = snap`; the advance past the operand bytes
follows in the step (R104). -/

namespace Sys2Proof.Machine

/-- `Branch(cond)` (R210). -/
def branch (cond : Bool) (off : Byte) (s : State) : Result :=
  if cond then jumpTo (.relative off) s else .next s

/-- BCC (R211). -/
def execBcc (off : Byte) (s : State) : Result := branch (!s.flag .C) off s

/-- BCS (R212). -/
def execBcs (off : Byte) (s : State) : Result := branch (s.flag .C) off s

/-- BEQ (R213). -/
def execBeq (off : Byte) (s : State) : Result := branch (s.flag .Z) off s

/-- BNE (R214). -/
def execBne (off : Byte) (s : State) : Result := branch (!s.flag .Z) off s

/-- BPL (R215). -/
def execBpl (off : Byte) (s : State) : Result := branch (!s.flag .N) off s

/-- BMI (R216). -/
def execBmi (off : Byte) (s : State) : Result := branch (s.flag .N) off s

/-- BVC (R217). -/
def execBvc (off : Byte) (s : State) : Result := branch (!s.flag .V) off s

/-- BVS (R218). -/
def execBvs (off : Byte) (s : State) : Result := branch (s.flag .V) off s

/-- JMP absolute (R219). -/
def execJmpAbsolute (addr : Addr) (s : State) : Result := jumpTo (.absolute addr) s

/-- JMP indirect (R220), with the page bug of R114. -/
def execJmpIndirect (ptr : Addr) (s : State) : Result := jumpTo (.indirect ptr) s

/-- JSR (R221): the target comes from the instruction, so it is read before the pushes; the pushed word is
the address of the JSR's last byte (C9). -/
def execJsrAbsolute (addr : Addr) (s : State) : Result := .next ((s.push16 (s.pc + 1)).setPC addr)

/-- RTS (R222). -/
def execRts (s : State) : Result := .next (s.pulled16.setPC (s.pullWord + 1))

/-- PHA (R223). -/
def execPha (s : State) : Result := .next (s.push s.a)

/-- PLA (R224), setting Z and N (D9). -/
def execPla (s : State) : Result := .next ((s.pulled.setA s.pullByte).setZN s.pullByte)

/-- PHP (R225): the pushed copy has bits 4 and 5 set, the live status stays. -/
def execPhp (s : State) : Result := .next (s.push (s.p ||| 0x30))

/-- PLP (R226): bit 4 is forced to 0 and bit 5 to 1. -/
def execPlp (s : State) : Result := .next (s.pulled.setP ((s.pullByte &&& 0xEF) ||| 0x20))

/-- RTI (R227). -/
def execRti (s : State) : Result := .next s.returnFromInterrupt

/-- SEC (R228). -/
def execSec (s : State) : Result := .next (s.setFlag .C true)

/-- CLC (R229). -/
def execClc (s : State) : Result := .next (s.setFlag .C false)

/-- SEI (R230). -/
def execSei (s : State) : Result := .next (s.setFlag .I true)

/-- CLI (R231). -/
def execCli (s : State) : Result := .next (s.setFlag .I false)

/-- SED (R232). -/
def execSed (s : State) : Result := .next (s.setFlag .D true)

/-- CLD (R233). -/
def execCld (s : State) : Result := .next (s.setFlag .D false)

/-- CLV (R234). -/
def execClv (s : State) : Result := .next (s.setFlag .V false)

/-- NOP 0xEA (R235). -/
def execNopEA (s : State) : Result := .next s

/-- BRK (R236): sets B, then halts; nothing is pushed and no vector is read. -/
def execBrk (s : State) : Result := .next ((s.setFlag .B true).halt .brk)

end Sys2Proof.Machine
end

