-- ==== Sys2Proof/Machine/LoadStoreTransfer.lean ====
section
/-! DEFINITION. Loads, stores and transfers (spec/41_load_store_transfer.md). Each meaning runs with
`PC = snap`. -/

namespace Sys2Proof.Machine

/-- LDA (R140). -/
def lda (o : Operand) (s : State) : Result := .next ((s.setA (readOperand o s)).setZN (readOperand o s))

/-- LDX (R141). -/
def ldx (o : Operand) (s : State) : Result := .next ((s.setX (readOperand o s)).setZN (readOperand o s))

/-- LDY (R142). -/
def ldy (o : Operand) (s : State) : Result := .next ((s.setY (readOperand o s)).setZN (readOperand o s))

/-- STA (R143). -/
def sta (op : Byte) (o : Operand) (s : State) : Result := writeBack op o s.a s

/-- STX (R144). -/
def stx (op : Byte) (o : Operand) (s : State) : Result := writeBack op o s.x s

/-- STY (R145). -/
def sty (op : Byte) (o : Operand) (s : State) : Result := writeBack op o s.y s

/-- 0xA1 LDA Indirect_X (R140). -/
def execLdaIndirectX (zp : Byte) (s : State) : Result := lda (.indirectX zp) s

/-- 0xA5 LDA ZeroPage (R140). -/
def execLdaZeroPage (zp : Byte) (s : State) : Result := lda (.zeroPage zp) s

/-- 0xA9 LDA Immediate (R140). -/
def execLdaImmediate (imm : Byte) (s : State) : Result := lda (.immediate imm) s

/-- 0xAD LDA Absolute (R140). -/
def execLdaAbsolute (addr : Addr) (s : State) : Result := lda (.absolute addr) s

/-- 0xB1 LDA Indirect_Y (R140). -/
def execLdaIndirectY (zp : Byte) (s : State) : Result := lda (.indirectY zp) s

/-- 0xB5 LDA ZeroPage_X (R140). -/
def execLdaZeroPageX (zp : Byte) (s : State) : Result := lda (.zeroPageX zp) s

/-- 0xB9 LDA Absolute_Y (R140). -/
def execLdaAbsoluteY (addr : Addr) (s : State) : Result := lda (.absoluteY addr) s

/-- 0xBD LDA Absolute_X (R140). -/
def execLdaAbsoluteX (addr : Addr) (s : State) : Result := lda (.absoluteX addr) s

/-- 0xA2 LDX Immediate (R141). -/
def execLdxImmediate (imm : Byte) (s : State) : Result := ldx (.immediate imm) s

/-- 0xA6 LDX ZeroPage (R141). -/
def execLdxZeroPage (zp : Byte) (s : State) : Result := ldx (.zeroPage zp) s

/-- 0xAE LDX Absolute (R141). -/
def execLdxAbsolute (addr : Addr) (s : State) : Result := ldx (.absolute addr) s

/-- 0xB6 LDX ZeroPage_Y (R141). -/
def execLdxZeroPageY (zp : Byte) (s : State) : Result := ldx (.zeroPageY zp) s

/-- 0xBE LDX Absolute_Y (R141). -/
def execLdxAbsoluteY (addr : Addr) (s : State) : Result := ldx (.absoluteY addr) s

/-- 0xA0 LDY Immediate (R142). -/
def execLdyImmediate (imm : Byte) (s : State) : Result := ldy (.immediate imm) s

/-- 0xA4 LDY ZeroPage (R142). -/
def execLdyZeroPage (zp : Byte) (s : State) : Result := ldy (.zeroPage zp) s

/-- 0xAC LDY Absolute (R142). -/
def execLdyAbsolute (addr : Addr) (s : State) : Result := ldy (.absolute addr) s

/-- 0xB4 LDY ZeroPage_X (R142). -/
def execLdyZeroPageX (zp : Byte) (s : State) : Result := ldy (.zeroPageX zp) s

/-- 0xBC LDY Absolute_X (R142). -/
def execLdyAbsoluteX (addr : Addr) (s : State) : Result := ldy (.absoluteX addr) s

/-- 0x81 STA Indirect_X (R143). -/
def execStaIndirectX (zp : Byte) (s : State) : Result := sta 0x81 (.indirectX zp) s

/-- 0x85 STA ZeroPage (R143). -/
def execStaZeroPage (zp : Byte) (s : State) : Result := sta 0x85 (.zeroPage zp) s

/-- 0x8D STA Absolute (R143). -/
def execStaAbsolute (addr : Addr) (s : State) : Result := sta 0x8D (.absolute addr) s

/-- 0x91 STA Indirect_Y (R143). -/
def execStaIndirectY (zp : Byte) (s : State) : Result := sta 0x91 (.indirectY zp) s

/-- 0x95 STA ZeroPage_X (R143). -/
def execStaZeroPageX (zp : Byte) (s : State) : Result := sta 0x95 (.zeroPageX zp) s

/-- 0x99 STA Absolute_Y (R143). -/
def execStaAbsoluteY (addr : Addr) (s : State) : Result := sta 0x99 (.absoluteY addr) s

/-- 0x9D STA Absolute_X (R143). -/
def execStaAbsoluteX (addr : Addr) (s : State) : Result := sta 0x9D (.absoluteX addr) s

/-- 0x86 STX ZeroPage (R144). -/
def execStxZeroPage (zp : Byte) (s : State) : Result := stx 0x86 (.zeroPage zp) s

/-- 0x8E STX Absolute (R144). -/
def execStxAbsolute (addr : Addr) (s : State) : Result := stx 0x8E (.absolute addr) s

/-- 0x96 STX ZeroPage_Y (R144). -/
def execStxZeroPageY (zp : Byte) (s : State) : Result := stx 0x96 (.zeroPageY zp) s

/-- 0x84 STY ZeroPage (R145). -/
def execStyZeroPage (zp : Byte) (s : State) : Result := sty 0x84 (.zeroPage zp) s

/-- 0x8C STY Absolute (R145). -/
def execStyAbsolute (addr : Addr) (s : State) : Result := sty 0x8C (.absolute addr) s

/-- 0x94 STY ZeroPage_X (R145). -/
def execStyZeroPageX (zp : Byte) (s : State) : Result := sty 0x94 (.zeroPageX zp) s

/-- TAX (R146). -/
def execTax (s : State) : Result := .next ((s.setX s.a).setZN s.a)

/-- TAY (R147). -/
def execTay (s : State) : Result := .next ((s.setY s.a).setZN s.a)

/-- TXA (R148). -/
def execTxa (s : State) : Result := .next ((s.setA s.x).setZN s.x)

/-- TYA (R149). -/
def execTya (s : State) : Result := .next ((s.setA s.y).setZN s.y)

/-- TSX (R150). -/
def execTsx (s : State) : Result := .next ((s.setX s.sp).setZN s.sp)

/-- TXS (R151): no flag changes. -/
def execTxs (s : State) : Result := .next (s.setSP s.x)

end Sys2Proof.Machine
end

