-- ==== Sys2Proof/Machine/Undocumented.lean ====
section
/-! DEFINITION. The undocumented opcodes (spec/44_undocumented.md). Each meaning runs with
`PC = snap`. -/

namespace Sys2Proof.Machine

/-- LAX (R261). -/
def lax (o : Operand) (s : State) : Result :=
  .next (((s.setA (readOperand o s)).setX (readOperand o s)).setZN (readOperand o s))

/-- SAX (R262). -/
def sax (op : Byte) (o : Operand) (s : State) : Result := writeBack op o (s.a &&& s.x) s

/-- DCP (R263): DEC, then CMP with the decremented byte. -/
def dcp (op : Byte) (o : Operand) (s : State) : Result :=
  (writeBack op o (readOperand o s - 1) s).andThen fun t => t.comparePath s.a (readOperand o s - 1)

/-- ISC (R264): INC, then SBC with the incremented byte. -/
def isc (op : Byte) (o : Operand) (s : State) : Result :=
  (writeBack op o (readOperand o s + 1) s).andThen fun t => t.addPath (~~~(readOperand o s + 1))

/-- A fused shift: writes the shifted byte back, sets C to the bit shifted out, then combines the byte
into the state (R265 to R268). -/
def fuseShift (op : Byte) (o : Operand) (out : Byte × Bool) (combine : State → State) (s : State) :
    Result :=
  (writeBack op o out.1 s).andThen fun t => combine (t.setFlag .C out.2)

/-- SLO (R265): ASL, then ORA. -/
def slo (op : Byte) (o : Operand) (s : State) : Result :=
  let out := shiftLeft (readOperand o s)
  fuseShift op o out (fun t => (t.setA (t.a ||| out.1)).setZN (t.a ||| out.1)) s

/-- RLA (R266): ROL, then AND. -/
def rla (op : Byte) (o : Operand) (s : State) : Result :=
  let out := rotateLeft (readOperand o s) (s.flag .C)
  fuseShift op o out (fun t => (t.setA (t.a &&& out.1)).setZN (t.a &&& out.1)) s

/-- SRE (R267): LSR, then EOR. -/
def sre (op : Byte) (o : Operand) (s : State) : Result :=
  let out := shiftRight (readOperand o s)
  fuseShift op o out (fun t => (t.setA (t.a ^^^ out.1)).setZN (t.a ^^^ out.1)) s

/-- RRA (R268): ROR, then ADC, whose carry-in is the bit the rotate shifted out. -/
def rra (op : Byte) (o : Operand) (s : State) : Result :=
  let out := rotateRight (readOperand o s) (s.flag .C)
  fuseShift op o out (fun t => t.addPath out.1) s

/-- 0xA3 LAX Indirect_X (R261). -/
def execLaxIndirectX (zp : Byte) (s : State) : Result := lax (.indirectX zp) s

/-- 0xA7 LAX ZeroPage (R261). -/
def execLaxZeroPage (zp : Byte) (s : State) : Result := lax (.zeroPage zp) s

/-- 0xAF LAX Absolute (R261). -/
def execLaxAbsolute (addr : Addr) (s : State) : Result := lax (.absolute addr) s

/-- 0xB3 LAX Indirect_Y (R261). -/
def execLaxIndirectY (zp : Byte) (s : State) : Result := lax (.indirectY zp) s

/-- 0xB7 LAX ZeroPage_Y (R261). -/
def execLaxZeroPageY (zp : Byte) (s : State) : Result := lax (.zeroPageY zp) s

/-- 0xBF LAX Absolute_Y (R261). -/
def execLaxAbsoluteY (addr : Addr) (s : State) : Result := lax (.absoluteY addr) s

/-- 0x83 SAX Indirect_X (R262). -/
def execSaxIndirectX (zp : Byte) (s : State) : Result := sax 0x83 (.indirectX zp) s

/-- 0x87 SAX ZeroPage (R262). -/
def execSaxZeroPage (zp : Byte) (s : State) : Result := sax 0x87 (.zeroPage zp) s

/-- 0x8F SAX Absolute (R262). -/
def execSaxAbsolute (addr : Addr) (s : State) : Result := sax 0x8F (.absolute addr) s

/-- 0x97 SAX ZeroPage_Y (R262). -/
def execSaxZeroPageY (zp : Byte) (s : State) : Result := sax 0x97 (.zeroPageY zp) s

/-- 0xC3 DCP Indirect_X (R263). -/
def execDcpIndirectX (zp : Byte) (s : State) : Result := dcp 0xC3 (.indirectX zp) s

/-- 0xC7 DCP ZeroPage (R263). -/
def execDcpZeroPage (zp : Byte) (s : State) : Result := dcp 0xC7 (.zeroPage zp) s

/-- 0xCF DCP Absolute (R263). -/
def execDcpAbsolute (addr : Addr) (s : State) : Result := dcp 0xCF (.absolute addr) s

/-- 0xD3 DCP Indirect_Y (R263). -/
def execDcpIndirectY (zp : Byte) (s : State) : Result := dcp 0xD3 (.indirectY zp) s

/-- 0xD7 DCP ZeroPage_X (R263). -/
def execDcpZeroPageX (zp : Byte) (s : State) : Result := dcp 0xD7 (.zeroPageX zp) s

/-- 0xDB DCP Absolute_Y (R263). -/
def execDcpAbsoluteY (addr : Addr) (s : State) : Result := dcp 0xDB (.absoluteY addr) s

/-- 0xDF DCP Absolute_X (R263). -/
def execDcpAbsoluteX (addr : Addr) (s : State) : Result := dcp 0xDF (.absoluteX addr) s

/-- 0xE3 ISC Indirect_X (R264). -/
def execIscIndirectX (zp : Byte) (s : State) : Result := isc 0xE3 (.indirectX zp) s

/-- 0xE7 ISC ZeroPage (R264). -/
def execIscZeroPage (zp : Byte) (s : State) : Result := isc 0xE7 (.zeroPage zp) s

/-- 0xEF ISC Absolute (R264). -/
def execIscAbsolute (addr : Addr) (s : State) : Result := isc 0xEF (.absolute addr) s

/-- 0xF3 ISC Indirect_Y (R264). -/
def execIscIndirectY (zp : Byte) (s : State) : Result := isc 0xF3 (.indirectY zp) s

/-- 0xF7 ISC ZeroPage_X (R264). -/
def execIscZeroPageX (zp : Byte) (s : State) : Result := isc 0xF7 (.zeroPageX zp) s

/-- 0xFB ISC Absolute_Y (R264). -/
def execIscAbsoluteY (addr : Addr) (s : State) : Result := isc 0xFB (.absoluteY addr) s

/-- 0xFF ISC Absolute_X (R264). -/
def execIscAbsoluteX (addr : Addr) (s : State) : Result := isc 0xFF (.absoluteX addr) s

/-- 0x03 SLO Indirect_X (R265). -/
def execSloIndirectX (zp : Byte) (s : State) : Result := slo 0x03 (.indirectX zp) s

/-- 0x07 SLO ZeroPage (R265). -/
def execSloZeroPage (zp : Byte) (s : State) : Result := slo 0x07 (.zeroPage zp) s

/-- 0x0F SLO Absolute (R265). -/
def execSloAbsolute (addr : Addr) (s : State) : Result := slo 0x0F (.absolute addr) s

/-- 0x13 SLO Indirect_Y (R265). -/
def execSloIndirectY (zp : Byte) (s : State) : Result := slo 0x13 (.indirectY zp) s

/-- 0x17 SLO ZeroPage_X (R265). -/
def execSloZeroPageX (zp : Byte) (s : State) : Result := slo 0x17 (.zeroPageX zp) s

/-- 0x1B SLO Absolute_Y (R265). -/
def execSloAbsoluteY (addr : Addr) (s : State) : Result := slo 0x1B (.absoluteY addr) s

/-- 0x1F SLO Absolute_X (R265). -/
def execSloAbsoluteX (addr : Addr) (s : State) : Result := slo 0x1F (.absoluteX addr) s

/-- 0x23 RLA Indirect_X (R266). -/
def execRlaIndirectX (zp : Byte) (s : State) : Result := rla 0x23 (.indirectX zp) s

/-- 0x27 RLA ZeroPage (R266). -/
def execRlaZeroPage (zp : Byte) (s : State) : Result := rla 0x27 (.zeroPage zp) s

/-- 0x2F RLA Absolute (R266). -/
def execRlaAbsolute (addr : Addr) (s : State) : Result := rla 0x2F (.absolute addr) s

/-- 0x33 RLA Indirect_Y (R266). -/
def execRlaIndirectY (zp : Byte) (s : State) : Result := rla 0x33 (.indirectY zp) s

/-- 0x37 RLA ZeroPage_X (R266). -/
def execRlaZeroPageX (zp : Byte) (s : State) : Result := rla 0x37 (.zeroPageX zp) s

/-- 0x3B RLA Absolute_Y (R266). -/
def execRlaAbsoluteY (addr : Addr) (s : State) : Result := rla 0x3B (.absoluteY addr) s

/-- 0x3F RLA Absolute_X (R266). -/
def execRlaAbsoluteX (addr : Addr) (s : State) : Result := rla 0x3F (.absoluteX addr) s

/-- 0x43 SRE Indirect_X (R267). -/
def execSreIndirectX (zp : Byte) (s : State) : Result := sre 0x43 (.indirectX zp) s

/-- 0x47 SRE ZeroPage (R267). -/
def execSreZeroPage (zp : Byte) (s : State) : Result := sre 0x47 (.zeroPage zp) s

/-- 0x4F SRE Absolute (R267). -/
def execSreAbsolute (addr : Addr) (s : State) : Result := sre 0x4F (.absolute addr) s

/-- 0x53 SRE Indirect_Y (R267). -/
def execSreIndirectY (zp : Byte) (s : State) : Result := sre 0x53 (.indirectY zp) s

/-- 0x57 SRE ZeroPage_X (R267). -/
def execSreZeroPageX (zp : Byte) (s : State) : Result := sre 0x57 (.zeroPageX zp) s

/-- 0x5B SRE Absolute_Y (R267). -/
def execSreAbsoluteY (addr : Addr) (s : State) : Result := sre 0x5B (.absoluteY addr) s

/-- 0x5F SRE Absolute_X (R267). -/
def execSreAbsoluteX (addr : Addr) (s : State) : Result := sre 0x5F (.absoluteX addr) s

/-- 0x63 RRA Indirect_X (R268). -/
def execRraIndirectX (zp : Byte) (s : State) : Result := rra 0x63 (.indirectX zp) s

/-- 0x67 RRA ZeroPage (R268). -/
def execRraZeroPage (zp : Byte) (s : State) : Result := rra 0x67 (.zeroPage zp) s

/-- 0x6F RRA Absolute (R268). -/
def execRraAbsolute (addr : Addr) (s : State) : Result := rra 0x6F (.absolute addr) s

/-- 0x73 RRA Indirect_Y (R268). -/
def execRraIndirectY (zp : Byte) (s : State) : Result := rra 0x73 (.indirectY zp) s

/-- 0x77 RRA ZeroPage_X (R268). -/
def execRraZeroPageX (zp : Byte) (s : State) : Result := rra 0x77 (.zeroPageX zp) s

/-- 0x7B RRA Absolute_Y (R268). -/
def execRraAbsoluteY (addr : Addr) (s : State) : Result := rra 0x7B (.absoluteY addr) s

/-- 0x7F RRA Absolute_X (R268). -/
def execRraAbsoluteX (addr : Addr) (s : State) : Result := rra 0x7F (.absoluteX addr) s

/-- ANC (R269). -/
def anc (imm : Byte) (s : State) : Result :=
  .next (((s.setA (s.a &&& imm)).setZN (s.a &&& imm)).setFlag .C ((s.a &&& imm).getLsbD 7))

/-- 0x0B ANC (R269). -/
def execAncImmediate0B (imm : Byte) (s : State) : Result := anc imm s

/-- 0x2B ANC (R269). -/
def execAncImmediate2B (imm : Byte) (s : State) : Result := anc imm s

/-- ALR (R270). -/
def execAlrImmediate (imm : Byte) (s : State) : Result :=
  let out := shiftRight (s.a &&& imm)
  .next (((s.setA out.1).setFlag .C out.2).setZN out.1)

/-- ARR (R271): C is bit 6 of the result and V is bit 6 XOR bit 5 (D26). -/
def execArrImmediate (imm : Byte) (s : State) : Result :=
  let r := (rotateRight (s.a &&& imm) (s.flag .C)).1
  .next ((((s.setA r).setZN r).setFlag .C (r.getLsbD 6)).setFlag .V (r.getLsbD 6 ^^ r.getLsbD 5))

/-- AXS (R272): the incoming C is not used and V is kept (D15). -/
def execAxsImmediate (imm : Byte) (s : State) : Result :=
  let t := s.a &&& s.x
  .next (((s.setX (t - imm)).setFlag .C (decide (imm.toNat ≤ t.toNat))).setZN (t - imm))

/-- An unstable opcode under the machine's policy: its meaning under `fusion`, no meaning under `refuse`
(R10, R284). -/
def underPolicy (op : Byte) (meaning : State → Result) (s : State) : Result :=
  match s.policy with
  | .fusion => meaning s
  | .refuse => .refused (.unstableOpcode op (s.pc - 1))

/-- LXA (R273): `A <- (A | 0xFF) & m` with the fusion constant 0xFF is `A <- m` (D13). -/
def lxa (imm : Byte) (s : State) : Result := .next (((s.setA imm).setX imm).setZN imm)

/-- 0xAB LXA (R273) under the policy. -/
def execLxaImmediate (imm : Byte) (s : State) : Result := underPolicy 0xAB (lxa imm) s

/-- XAA (R274): `A <- (A | 0xFF) & X & m` with the fusion constant 0xFF is `A <- X & m` (D13). -/
def xaa (imm : Byte) (s : State) : Result := .next ((s.setA (s.x &&& imm)).setZN (s.x &&& imm))

/-- 0x8B XAA (R274) under the policy. -/
def execXaaImmediate (imm : Byte) (s : State) : Result := underPolicy 0x8B (xaa imm) s

/-- LAS (R275); not under the policy. -/
def las (o : Operand) (s : State) : Result :=
  let t := readOperand o s &&& s.sp
  .next ((((s.setA t).setX t).setSP t).setZN t)

/-- 0xBB LAS (R275). -/
def execLasAbsoluteY (addr : Addr) (s : State) : Result := las (.absoluteY addr) s

/-- Stores `v & (H + 1)`, with `H` the high byte of the base before indexing by `index` (D14). -/
def storeHigh (op : Byte) (o : Operand) (index v : Byte) (s : State) : Result :=
  match resolve o s with
  | some ea => writeByte op ea (v &&& (baseHigh ea index + 1)) s
  | none => .next s

/-- TAS (R276): `SP` is written before the store. -/
def tas (op : Byte) (o : Operand) (s : State) : Result :=
  storeHigh op o s.y (s.a &&& s.x) (s.setSP (s.a &&& s.x))

/-- 0x9B TAS (R276) under the policy. -/
def execTasAbsoluteY (addr : Addr) (s : State) : Result := underPolicy 0x9B (tas 0x9B (.absoluteY addr)) s

/-- SHA (R277). -/
def sha (op : Byte) (o : Operand) (s : State) : Result := storeHigh op o s.y (s.a &&& s.x) s

/-- 0x9F SHA (R277) under the policy. -/
def execShaAbsoluteY (addr : Addr) (s : State) : Result := underPolicy 0x9F (sha 0x9F (.absoluteY addr)) s

/-- 0x93 SHA (R277) under the policy. -/
def execShaIndirectY (zp : Byte) (s : State) : Result := underPolicy 0x93 (sha 0x93 (.indirectY zp)) s

/-- SHX (R278). -/
def shx (op : Byte) (o : Operand) (s : State) : Result := storeHigh op o s.y s.x s

/-- 0x9E SHX (R278) under the policy. -/
def execShxAbsoluteY (addr : Addr) (s : State) : Result := underPolicy 0x9E (shx 0x9E (.absoluteY addr)) s

/-- SHY (R279): indexed by `X`. -/
def shy (op : Byte) (o : Operand) (s : State) : Result := storeHigh op o s.x s.y s

/-- 0x9C SHY (R279) under the policy. -/
def execShyAbsoluteX (addr : Addr) (s : State) : Result := underPolicy 0x9C (shy 0x9C (.absoluteX addr)) s

/-- An undocumented NOP (R281, R282): nothing; the operand bytes are skipped by the advance of the step
and no data is read (D16). -/
def nop (_o : Operand) (s : State) : Result := .next s

/-- 0x04 NOP ZeroPage (R282). -/
def execNopZeroPage04 (zp : Byte) (s : State) : Result := nop (.zeroPage zp) s

/-- 0x0C NOP Absolute (R282). -/
def execNopAbsolute (addr : Addr) (s : State) : Result := nop (.absolute addr) s

/-- 0x14 NOP ZeroPage_X (R282). -/
def execNopZeroPageX14 (zp : Byte) (s : State) : Result := nop (.zeroPageX zp) s

/-- 0x1A NOP Implied (R281). -/
def execNop1A (s : State) : Result := nop .implied s

/-- 0x1C NOP Absolute_X (R282). -/
def execNopAbsoluteX1C (addr : Addr) (s : State) : Result := nop (.absoluteX addr) s

/-- 0x34 NOP ZeroPage_X (R282). -/
def execNopZeroPageX34 (zp : Byte) (s : State) : Result := nop (.zeroPageX zp) s

/-- 0x3A NOP Implied (R281). -/
def execNop3A (s : State) : Result := nop .implied s

/-- 0x3C NOP Absolute_X (R282). -/
def execNopAbsoluteX3C (addr : Addr) (s : State) : Result := nop (.absoluteX addr) s

/-- 0x44 NOP ZeroPage (R282). -/
def execNopZeroPage44 (zp : Byte) (s : State) : Result := nop (.zeroPage zp) s

/-- 0x54 NOP ZeroPage_X (R282). -/
def execNopZeroPageX54 (zp : Byte) (s : State) : Result := nop (.zeroPageX zp) s

/-- 0x5A NOP Implied (R281). -/
def execNop5A (s : State) : Result := nop .implied s

/-- 0x5C NOP Absolute_X (R282). -/
def execNopAbsoluteX5C (addr : Addr) (s : State) : Result := nop (.absoluteX addr) s

/-- 0x64 NOP ZeroPage (R282). -/
def execNopZeroPage64 (zp : Byte) (s : State) : Result := nop (.zeroPage zp) s

/-- 0x74 NOP ZeroPage_X (R282). -/
def execNopZeroPageX74 (zp : Byte) (s : State) : Result := nop (.zeroPageX zp) s

/-- 0x7A NOP Implied (R281). -/
def execNop7A (s : State) : Result := nop .implied s

/-- 0x7C NOP Absolute_X (R282). -/
def execNopAbsoluteX7C (addr : Addr) (s : State) : Result := nop (.absoluteX addr) s

/-- 0x80 NOP Immediate (R282). -/
def execNopImmediate80 (imm : Byte) (s : State) : Result := nop (.immediate imm) s

/-- 0x82 NOP Immediate (R282). -/
def execNopImmediate82 (imm : Byte) (s : State) : Result := nop (.immediate imm) s

/-- 0x89 NOP Immediate (R282). -/
def execNopImmediate89 (imm : Byte) (s : State) : Result := nop (.immediate imm) s

/-- 0xC2 NOP Immediate (R282). -/
def execNopImmediateC2 (imm : Byte) (s : State) : Result := nop (.immediate imm) s

/-- 0xD4 NOP ZeroPage_X (R282). -/
def execNopZeroPageXD4 (zp : Byte) (s : State) : Result := nop (.zeroPageX zp) s

/-- 0xDA NOP Implied (R281). -/
def execNopDA (s : State) : Result := nop .implied s

/-- 0xDC NOP Absolute_X (R282). -/
def execNopAbsoluteXDC (addr : Addr) (s : State) : Result := nop (.absoluteX addr) s

/-- 0xE2 NOP Immediate (R282). -/
def execNopImmediateE2 (imm : Byte) (s : State) : Result := nop (.immediate imm) s

/-- 0xF4 NOP ZeroPage_X (R282). -/
def execNopZeroPageXF4 (zp : Byte) (s : State) : Result := nop (.zeroPageX zp) s

/-- 0xFA NOP Implied (R281). -/
def execNopFA (s : State) : Result := nop .implied s

/-- 0xFC NOP Absolute_X (R282). -/
def execNopAbsoluteXFC (addr : Addr) (s : State) : Result := nop (.absoluteX addr) s

/-- KIL (R283): halts; no register, flag or memory byte changes. -/
def kil (s : State) : Result := .next (s.halt .kil)

/-- 0x02 KIL Implied (R283). -/
def execKil02 (s : State) : Result := kil s

/-- 0x12 KIL Implied (R283). -/
def execKil12 (s : State) : Result := kil s

/-- 0x22 KIL Implied (R283). -/
def execKil22 (s : State) : Result := kil s

/-- 0x32 KIL Implied (R283). -/
def execKil32 (s : State) : Result := kil s

/-- 0x42 KIL Implied (R283). -/
def execKil42 (s : State) : Result := kil s

/-- 0x52 KIL Implied (R283). -/
def execKil52 (s : State) : Result := kil s

/-- 0x62 KIL Implied (R283). -/
def execKil62 (s : State) : Result := kil s

/-- 0x72 KIL Implied (R283). -/
def execKil72 (s : State) : Result := kil s

/-- 0x92 KIL Implied (R283). -/
def execKil92 (s : State) : Result := kil s

/-- 0xB2 KIL Implied (R283). -/
def execKilB2 (s : State) : Result := kil s

/-- 0xD2 KIL Implied (R283). -/
def execKilD2 (s : State) : Result := kil s

/-- 0xF2 KIL Implied (R283). -/
def execKilF2 (s : State) : Result := kil s

end Sys2Proof.Machine
end

