-- ==== Sys2Proof/Machine/Dispatch.lean ====
section
/-! DEFINITION. exec: one arm per constructor of Instr. It runs with `PC = snap`, the address of the first
operand byte (R101, R103); Step.lean fetches before it and advances after it. -/

namespace Sys2Proof.Machine

def exec (i : Instr) (s : State) : Host.Outcome State Fault Refusal :=
  match i with
  | .oraIndirectX zp => Sys2Proof.Machine.execOraIndirectX zp s
  | .sloIndirectX zp => Sys2Proof.Machine.execSloIndirectX zp s
  | .nopZeroPage04 zp => Sys2Proof.Machine.execNopZeroPage04 zp s
  | .oraZeroPage zp => Sys2Proof.Machine.execOraZeroPage zp s
  | .aslZeroPage zp => Sys2Proof.Machine.execAslZeroPage zp s
  | .sloZeroPage zp => Sys2Proof.Machine.execSloZeroPage zp s
  | .oraImmediate imm => Sys2Proof.Machine.execOraImmediate imm s
  | .ancImmediate0B imm => Sys2Proof.Machine.execAncImmediate0B imm s
  | .nopAbsolute addr => Sys2Proof.Machine.execNopAbsolute addr s
  | .oraAbsolute addr => Sys2Proof.Machine.execOraAbsolute addr s
  | .aslAbsolute addr => Sys2Proof.Machine.execAslAbsolute addr s
  | .sloAbsolute addr => Sys2Proof.Machine.execSloAbsolute addr s
  | .bpl off => Sys2Proof.Machine.execBpl off s
  | .oraIndirectY zp => Sys2Proof.Machine.execOraIndirectY zp s
  | .sloIndirectY zp => Sys2Proof.Machine.execSloIndirectY zp s
  | .nopZeroPageX14 zp => Sys2Proof.Machine.execNopZeroPageX14 zp s
  | .oraZeroPageX zp => Sys2Proof.Machine.execOraZeroPageX zp s
  | .aslZeroPageX zp => Sys2Proof.Machine.execAslZeroPageX zp s
  | .sloZeroPageX zp => Sys2Proof.Machine.execSloZeroPageX zp s
  | .oraAbsoluteY addr => Sys2Proof.Machine.execOraAbsoluteY addr s
  | .sloAbsoluteY addr => Sys2Proof.Machine.execSloAbsoluteY addr s
  | .nopAbsoluteX1C addr => Sys2Proof.Machine.execNopAbsoluteX1C addr s
  | .oraAbsoluteX addr => Sys2Proof.Machine.execOraAbsoluteX addr s
  | .aslAbsoluteX addr => Sys2Proof.Machine.execAslAbsoluteX addr s
  | .sloAbsoluteX addr => Sys2Proof.Machine.execSloAbsoluteX addr s
  | .jsrAbsolute addr => Sys2Proof.Machine.execJsrAbsolute addr s
  | .andIndirectX zp => Sys2Proof.Machine.execAndIndirectX zp s
  | .rlaIndirectX zp => Sys2Proof.Machine.execRlaIndirectX zp s
  | .bitZeroPage zp => Sys2Proof.Machine.execBitZeroPage zp s
  | .andZeroPage zp => Sys2Proof.Machine.execAndZeroPage zp s
  | .rolZeroPage zp => Sys2Proof.Machine.execRolZeroPage zp s
  | .rlaZeroPage zp => Sys2Proof.Machine.execRlaZeroPage zp s
  | .andImmediate imm => Sys2Proof.Machine.execAndImmediate imm s
  | .ancImmediate2B imm => Sys2Proof.Machine.execAncImmediate2B imm s
  | .bitAbsolute addr => Sys2Proof.Machine.execBitAbsolute addr s
  | .andAbsolute addr => Sys2Proof.Machine.execAndAbsolute addr s
  | .rolAbsolute addr => Sys2Proof.Machine.execRolAbsolute addr s
  | .rlaAbsolute addr => Sys2Proof.Machine.execRlaAbsolute addr s
  | .bmi off => Sys2Proof.Machine.execBmi off s
  | .andIndirectY zp => Sys2Proof.Machine.execAndIndirectY zp s
  | .rlaIndirectY zp => Sys2Proof.Machine.execRlaIndirectY zp s
  | .nopZeroPageX34 zp => Sys2Proof.Machine.execNopZeroPageX34 zp s
  | .andZeroPageX zp => Sys2Proof.Machine.execAndZeroPageX zp s
  | .rolZeroPageX zp => Sys2Proof.Machine.execRolZeroPageX zp s
  | .rlaZeroPageX zp => Sys2Proof.Machine.execRlaZeroPageX zp s
  | .andAbsoluteY addr => Sys2Proof.Machine.execAndAbsoluteY addr s
  | .rlaAbsoluteY addr => Sys2Proof.Machine.execRlaAbsoluteY addr s
  | .nopAbsoluteX3C addr => Sys2Proof.Machine.execNopAbsoluteX3C addr s
  | .andAbsoluteX addr => Sys2Proof.Machine.execAndAbsoluteX addr s
  | .rolAbsoluteX addr => Sys2Proof.Machine.execRolAbsoluteX addr s
  | .rlaAbsoluteX addr => Sys2Proof.Machine.execRlaAbsoluteX addr s
  | .eorIndirectX zp => Sys2Proof.Machine.execEorIndirectX zp s
  | .sreIndirectX zp => Sys2Proof.Machine.execSreIndirectX zp s
  | .nopZeroPage44 zp => Sys2Proof.Machine.execNopZeroPage44 zp s
  | .eorZeroPage zp => Sys2Proof.Machine.execEorZeroPage zp s
  | .lsrZeroPage zp => Sys2Proof.Machine.execLsrZeroPage zp s
  | .sreZeroPage zp => Sys2Proof.Machine.execSreZeroPage zp s
  | .eorImmediate imm => Sys2Proof.Machine.execEorImmediate imm s
  | .alrImmediate imm => Sys2Proof.Machine.execAlrImmediate imm s
  | .jmpAbsolute addr => Sys2Proof.Machine.execJmpAbsolute addr s
  | .eorAbsolute addr => Sys2Proof.Machine.execEorAbsolute addr s
  | .lsrAbsolute addr => Sys2Proof.Machine.execLsrAbsolute addr s
  | .sreAbsolute addr => Sys2Proof.Machine.execSreAbsolute addr s
  | .bvc off => Sys2Proof.Machine.execBvc off s
  | .eorIndirectY zp => Sys2Proof.Machine.execEorIndirectY zp s
  | .sreIndirectY zp => Sys2Proof.Machine.execSreIndirectY zp s
  | .nopZeroPageX54 zp => Sys2Proof.Machine.execNopZeroPageX54 zp s
  | .eorZeroPageX zp => Sys2Proof.Machine.execEorZeroPageX zp s
  | .lsrZeroPageX zp => Sys2Proof.Machine.execLsrZeroPageX zp s
  | .sreZeroPageX zp => Sys2Proof.Machine.execSreZeroPageX zp s
  | .eorAbsoluteY addr => Sys2Proof.Machine.execEorAbsoluteY addr s
  | .sreAbsoluteY addr => Sys2Proof.Machine.execSreAbsoluteY addr s
  | .nopAbsoluteX5C addr => Sys2Proof.Machine.execNopAbsoluteX5C addr s
  | .eorAbsoluteX addr => Sys2Proof.Machine.execEorAbsoluteX addr s
  | .lsrAbsoluteX addr => Sys2Proof.Machine.execLsrAbsoluteX addr s
  | .sreAbsoluteX addr => Sys2Proof.Machine.execSreAbsoluteX addr s
  | .adcIndirectX zp => Sys2Proof.Machine.execAdcIndirectX zp s
  | .rraIndirectX zp => Sys2Proof.Machine.execRraIndirectX zp s
  | .nopZeroPage64 zp => Sys2Proof.Machine.execNopZeroPage64 zp s
  | .adcZeroPage zp => Sys2Proof.Machine.execAdcZeroPage zp s
  | .rorZeroPage zp => Sys2Proof.Machine.execRorZeroPage zp s
  | .rraZeroPage zp => Sys2Proof.Machine.execRraZeroPage zp s
  | .adcImmediate imm => Sys2Proof.Machine.execAdcImmediate imm s
  | .arrImmediate imm => Sys2Proof.Machine.execArrImmediate imm s
  | .jmpIndirect ptr => Sys2Proof.Machine.execJmpIndirect ptr s
  | .adcAbsolute addr => Sys2Proof.Machine.execAdcAbsolute addr s
  | .rorAbsolute addr => Sys2Proof.Machine.execRorAbsolute addr s
  | .rraAbsolute addr => Sys2Proof.Machine.execRraAbsolute addr s
  | .bvs off => Sys2Proof.Machine.execBvs off s
  | .adcIndirectY zp => Sys2Proof.Machine.execAdcIndirectY zp s
  | .rraIndirectY zp => Sys2Proof.Machine.execRraIndirectY zp s
  | .nopZeroPageX74 zp => Sys2Proof.Machine.execNopZeroPageX74 zp s
  | .adcZeroPageX zp => Sys2Proof.Machine.execAdcZeroPageX zp s
  | .rorZeroPageX zp => Sys2Proof.Machine.execRorZeroPageX zp s
  | .rraZeroPageX zp => Sys2Proof.Machine.execRraZeroPageX zp s
  | .adcAbsoluteY addr => Sys2Proof.Machine.execAdcAbsoluteY addr s
  | .rraAbsoluteY addr => Sys2Proof.Machine.execRraAbsoluteY addr s
  | .nopAbsoluteX7C addr => Sys2Proof.Machine.execNopAbsoluteX7C addr s
  | .adcAbsoluteX addr => Sys2Proof.Machine.execAdcAbsoluteX addr s
  | .rorAbsoluteX addr => Sys2Proof.Machine.execRorAbsoluteX addr s
  | .rraAbsoluteX addr => Sys2Proof.Machine.execRraAbsoluteX addr s
  | .nopImmediate80 imm => Sys2Proof.Machine.execNopImmediate80 imm s
  | .staIndirectX zp => Sys2Proof.Machine.execStaIndirectX zp s
  | .nopImmediate82 imm => Sys2Proof.Machine.execNopImmediate82 imm s
  | .saxIndirectX zp => Sys2Proof.Machine.execSaxIndirectX zp s
  | .styZeroPage zp => Sys2Proof.Machine.execStyZeroPage zp s
  | .staZeroPage zp => Sys2Proof.Machine.execStaZeroPage zp s
  | .stxZeroPage zp => Sys2Proof.Machine.execStxZeroPage zp s
  | .saxZeroPage zp => Sys2Proof.Machine.execSaxZeroPage zp s
  | .nopImmediate89 imm => Sys2Proof.Machine.execNopImmediate89 imm s
  | .xaaImmediate imm => Sys2Proof.Machine.execXaaImmediate imm s
  | .styAbsolute addr => Sys2Proof.Machine.execStyAbsolute addr s
  | .staAbsolute addr => Sys2Proof.Machine.execStaAbsolute addr s
  | .stxAbsolute addr => Sys2Proof.Machine.execStxAbsolute addr s
  | .saxAbsolute addr => Sys2Proof.Machine.execSaxAbsolute addr s
  | .bcc off => Sys2Proof.Machine.execBcc off s
  | .staIndirectY zp => Sys2Proof.Machine.execStaIndirectY zp s
  | .shaIndirectY zp => Sys2Proof.Machine.execShaIndirectY zp s
  | .styZeroPageX zp => Sys2Proof.Machine.execStyZeroPageX zp s
  | .staZeroPageX zp => Sys2Proof.Machine.execStaZeroPageX zp s
  | .stxZeroPageY zp => Sys2Proof.Machine.execStxZeroPageY zp s
  | .saxZeroPageY zp => Sys2Proof.Machine.execSaxZeroPageY zp s
  | .staAbsoluteY addr => Sys2Proof.Machine.execStaAbsoluteY addr s
  | .tasAbsoluteY addr => Sys2Proof.Machine.execTasAbsoluteY addr s
  | .shyAbsoluteX addr => Sys2Proof.Machine.execShyAbsoluteX addr s
  | .staAbsoluteX addr => Sys2Proof.Machine.execStaAbsoluteX addr s
  | .shxAbsoluteY addr => Sys2Proof.Machine.execShxAbsoluteY addr s
  | .shaAbsoluteY addr => Sys2Proof.Machine.execShaAbsoluteY addr s
  | .ldyImmediate imm => Sys2Proof.Machine.execLdyImmediate imm s
  | .ldaIndirectX zp => Sys2Proof.Machine.execLdaIndirectX zp s
  | .ldxImmediate imm => Sys2Proof.Machine.execLdxImmediate imm s
  | .laxIndirectX zp => Sys2Proof.Machine.execLaxIndirectX zp s
  | .ldyZeroPage zp => Sys2Proof.Machine.execLdyZeroPage zp s
  | .ldaZeroPage zp => Sys2Proof.Machine.execLdaZeroPage zp s
  | .ldxZeroPage zp => Sys2Proof.Machine.execLdxZeroPage zp s
  | .laxZeroPage zp => Sys2Proof.Machine.execLaxZeroPage zp s
  | .ldaImmediate imm => Sys2Proof.Machine.execLdaImmediate imm s
  | .lxaImmediate imm => Sys2Proof.Machine.execLxaImmediate imm s
  | .ldyAbsolute addr => Sys2Proof.Machine.execLdyAbsolute addr s
  | .ldaAbsolute addr => Sys2Proof.Machine.execLdaAbsolute addr s
  | .ldxAbsolute addr => Sys2Proof.Machine.execLdxAbsolute addr s
  | .laxAbsolute addr => Sys2Proof.Machine.execLaxAbsolute addr s
  | .bcs off => Sys2Proof.Machine.execBcs off s
  | .ldaIndirectY zp => Sys2Proof.Machine.execLdaIndirectY zp s
  | .laxIndirectY zp => Sys2Proof.Machine.execLaxIndirectY zp s
  | .ldyZeroPageX zp => Sys2Proof.Machine.execLdyZeroPageX zp s
  | .ldaZeroPageX zp => Sys2Proof.Machine.execLdaZeroPageX zp s
  | .ldxZeroPageY zp => Sys2Proof.Machine.execLdxZeroPageY zp s
  | .laxZeroPageY zp => Sys2Proof.Machine.execLaxZeroPageY zp s
  | .ldaAbsoluteY addr => Sys2Proof.Machine.execLdaAbsoluteY addr s
  | .lasAbsoluteY addr => Sys2Proof.Machine.execLasAbsoluteY addr s
  | .ldyAbsoluteX addr => Sys2Proof.Machine.execLdyAbsoluteX addr s
  | .ldaAbsoluteX addr => Sys2Proof.Machine.execLdaAbsoluteX addr s
  | .ldxAbsoluteY addr => Sys2Proof.Machine.execLdxAbsoluteY addr s
  | .laxAbsoluteY addr => Sys2Proof.Machine.execLaxAbsoluteY addr s
  | .cpyImmediate imm => Sys2Proof.Machine.execCpyImmediate imm s
  | .cmpIndirectX zp => Sys2Proof.Machine.execCmpIndirectX zp s
  | .nopImmediateC2 imm => Sys2Proof.Machine.execNopImmediateC2 imm s
  | .dcpIndirectX zp => Sys2Proof.Machine.execDcpIndirectX zp s
  | .cpyZeroPage zp => Sys2Proof.Machine.execCpyZeroPage zp s
  | .cmpZeroPage zp => Sys2Proof.Machine.execCmpZeroPage zp s
  | .decZeroPage zp => Sys2Proof.Machine.execDecZeroPage zp s
  | .dcpZeroPage zp => Sys2Proof.Machine.execDcpZeroPage zp s
  | .cmpImmediate imm => Sys2Proof.Machine.execCmpImmediate imm s
  | .axsImmediate imm => Sys2Proof.Machine.execAxsImmediate imm s
  | .cpyAbsolute addr => Sys2Proof.Machine.execCpyAbsolute addr s
  | .cmpAbsolute addr => Sys2Proof.Machine.execCmpAbsolute addr s
  | .decAbsolute addr => Sys2Proof.Machine.execDecAbsolute addr s
  | .dcpAbsolute addr => Sys2Proof.Machine.execDcpAbsolute addr s
  | .bne off => Sys2Proof.Machine.execBne off s
  | .cmpIndirectY zp => Sys2Proof.Machine.execCmpIndirectY zp s
  | .dcpIndirectY zp => Sys2Proof.Machine.execDcpIndirectY zp s
  | .nopZeroPageXD4 zp => Sys2Proof.Machine.execNopZeroPageXD4 zp s
  | .cmpZeroPageX zp => Sys2Proof.Machine.execCmpZeroPageX zp s
  | .decZeroPageX zp => Sys2Proof.Machine.execDecZeroPageX zp s
  | .dcpZeroPageX zp => Sys2Proof.Machine.execDcpZeroPageX zp s
  | .cmpAbsoluteY addr => Sys2Proof.Machine.execCmpAbsoluteY addr s
  | .dcpAbsoluteY addr => Sys2Proof.Machine.execDcpAbsoluteY addr s
  | .nopAbsoluteXDC addr => Sys2Proof.Machine.execNopAbsoluteXDC addr s
  | .cmpAbsoluteX addr => Sys2Proof.Machine.execCmpAbsoluteX addr s
  | .decAbsoluteX addr => Sys2Proof.Machine.execDecAbsoluteX addr s
  | .dcpAbsoluteX addr => Sys2Proof.Machine.execDcpAbsoluteX addr s
  | .cpxImmediate imm => Sys2Proof.Machine.execCpxImmediate imm s
  | .sbcIndirectX zp => Sys2Proof.Machine.execSbcIndirectX zp s
  | .nopImmediateE2 imm => Sys2Proof.Machine.execNopImmediateE2 imm s
  | .iscIndirectX zp => Sys2Proof.Machine.execIscIndirectX zp s
  | .cpxZeroPage zp => Sys2Proof.Machine.execCpxZeroPage zp s
  | .sbcZeroPage zp => Sys2Proof.Machine.execSbcZeroPage zp s
  | .incZeroPage zp => Sys2Proof.Machine.execIncZeroPage zp s
  | .iscZeroPage zp => Sys2Proof.Machine.execIscZeroPage zp s
  | .sbcImmediateE9 imm => Sys2Proof.Machine.execSbcImmediateE9 imm s
  | .sbcImmediateEB imm => Sys2Proof.Machine.execSbcImmediateEB imm s
  | .cpxAbsolute addr => Sys2Proof.Machine.execCpxAbsolute addr s
  | .sbcAbsolute addr => Sys2Proof.Machine.execSbcAbsolute addr s
  | .incAbsolute addr => Sys2Proof.Machine.execIncAbsolute addr s
  | .iscAbsolute addr => Sys2Proof.Machine.execIscAbsolute addr s
  | .beq off => Sys2Proof.Machine.execBeq off s
  | .sbcIndirectY zp => Sys2Proof.Machine.execSbcIndirectY zp s
  | .iscIndirectY zp => Sys2Proof.Machine.execIscIndirectY zp s
  | .nopZeroPageXF4 zp => Sys2Proof.Machine.execNopZeroPageXF4 zp s
  | .sbcZeroPageX zp => Sys2Proof.Machine.execSbcZeroPageX zp s
  | .incZeroPageX zp => Sys2Proof.Machine.execIncZeroPageX zp s
  | .iscZeroPageX zp => Sys2Proof.Machine.execIscZeroPageX zp s
  | .sbcAbsoluteY addr => Sys2Proof.Machine.execSbcAbsoluteY addr s
  | .iscAbsoluteY addr => Sys2Proof.Machine.execIscAbsoluteY addr s
  | .nopAbsoluteXFC addr => Sys2Proof.Machine.execNopAbsoluteXFC addr s
  | .sbcAbsoluteX addr => Sys2Proof.Machine.execSbcAbsoluteX addr s
  | .incAbsoluteX addr => Sys2Proof.Machine.execIncAbsoluteX addr s
  | .iscAbsoluteX addr => Sys2Proof.Machine.execIscAbsoluteX addr s
  | .brk => Sys2Proof.Machine.execBrk s
  | .kil02 => Sys2Proof.Machine.execKil02 s
  | .php => Sys2Proof.Machine.execPhp s
  | .aslAccumulator => Sys2Proof.Machine.execAslAccumulator s
  | .kil12 => Sys2Proof.Machine.execKil12 s
  | .clc => Sys2Proof.Machine.execClc s
  | .nop1A => Sys2Proof.Machine.execNop1A s
  | .kil22 => Sys2Proof.Machine.execKil22 s
  | .plp => Sys2Proof.Machine.execPlp s
  | .rolAccumulator => Sys2Proof.Machine.execRolAccumulator s
  | .kil32 => Sys2Proof.Machine.execKil32 s
  | .sec => Sys2Proof.Machine.execSec s
  | .nop3A => Sys2Proof.Machine.execNop3A s
  | .rti => Sys2Proof.Machine.execRti s
  | .kil42 => Sys2Proof.Machine.execKil42 s
  | .pha => Sys2Proof.Machine.execPha s
  | .lsrAccumulator => Sys2Proof.Machine.execLsrAccumulator s
  | .kil52 => Sys2Proof.Machine.execKil52 s
  | .cli => Sys2Proof.Machine.execCli s
  | .nop5A => Sys2Proof.Machine.execNop5A s
  | .rts => Sys2Proof.Machine.execRts s
  | .kil62 => Sys2Proof.Machine.execKil62 s
  | .pla => Sys2Proof.Machine.execPla s
  | .rorAccumulator => Sys2Proof.Machine.execRorAccumulator s
  | .kil72 => Sys2Proof.Machine.execKil72 s
  | .sei => Sys2Proof.Machine.execSei s
  | .nop7A => Sys2Proof.Machine.execNop7A s
  | .dey => Sys2Proof.Machine.execDey s
  | .txa => Sys2Proof.Machine.execTxa s
  | .kil92 => Sys2Proof.Machine.execKil92 s
  | .tya => Sys2Proof.Machine.execTya s
  | .txs => Sys2Proof.Machine.execTxs s
  | .tay => Sys2Proof.Machine.execTay s
  | .tax => Sys2Proof.Machine.execTax s
  | .kilB2 => Sys2Proof.Machine.execKilB2 s
  | .clv => Sys2Proof.Machine.execClv s
  | .tsx => Sys2Proof.Machine.execTsx s
  | .iny => Sys2Proof.Machine.execIny s
  | .dex => Sys2Proof.Machine.execDex s
  | .kilD2 => Sys2Proof.Machine.execKilD2 s
  | .cld => Sys2Proof.Machine.execCld s
  | .nopDA => Sys2Proof.Machine.execNopDA s
  | .inx => Sys2Proof.Machine.execInx s
  | .nopEA => Sys2Proof.Machine.execNopEA s
  | .kilF2 => Sys2Proof.Machine.execKilF2 s
  | .sed => Sys2Proof.Machine.execSed s
  | .nopFA => Sys2Proof.Machine.execNopFA s

end Sys2Proof.Machine
end

