-- ==== Sys2Proof/WellFormed.lean ====
section
/-! DEFINITION. The well-formedness checks. Every operand field of `Instr` has exactly the width of its
encoded field (R81, R84), so every term of `Instr` is a legal instruction and no check on it is
needed; what can be ill-formed is an entry of the opcode table, a ROM image and a program to load. -/

namespace Sys2Proof

/-- An opcode table entry is well formed when its length is the one its mode gives (R82). -/
def OpEntry.wf (e : OpEntry) : Bool := e.length == e.mode.length

/-- The ROM size an image of `n` bytes makes; other sizes are refused at construction (R8, D5). -/
def prgSizeOfLength (n : Nat) : Option PrgSize :=
  if n = 0x4000 then some .bank16K else if n = 0x8000 then some .bank32K else none

/-- A program that `load` accepts: at most 0x8000 bytes (R332, D24). -/
def loadable (program : List Byte) : Bool := decide (program.length ≤ 0x8000)

end Sys2Proof
end

