-- ==== Sys2Proof/Decode.lean ====
section
/-! DEFINITION. The opcode table (R88), the decoder (total on any bytes, rejecting by name) and the
encoder. -/

namespace Sys2Proof

/-- Opcodes 0x00 to 0x0F of the opcode table (R88): byte, mnemonic, mode, length, status, base cycles. -/
def opRow0 : List OpEntry := [
  ⟨0x00, .BRK, .implied, 1, .documented, some 7⟩,
  ⟨0x01, .ORA, .indirectX, 2, .documented, some 6⟩,
  ⟨0x02, .KIL, .implied, 1, .undocumented, none⟩,
  ⟨0x03, .SLO, .indirectX, 2, .undocumented, some 8⟩,
  ⟨0x04, .NOP, .zeroPage, 2, .undocumented, some 3⟩,
  ⟨0x05, .ORA, .zeroPage, 2, .documented, some 3⟩,
  ⟨0x06, .ASL, .zeroPage, 2, .documented, some 5⟩,
  ⟨0x07, .SLO, .zeroPage, 2, .undocumented, some 5⟩,
  ⟨0x08, .PHP, .implied, 1, .documented, some 3⟩,
  ⟨0x09, .ORA, .immediate, 2, .documented, some 2⟩,
  ⟨0x0A, .ASL, .accumulator, 1, .documented, some 2⟩,
  ⟨0x0B, .ANC, .immediate, 2, .undocumented, some 2⟩,
  ⟨0x0C, .NOP, .absolute, 3, .undocumented, some 4⟩,
  ⟨0x0D, .ORA, .absolute, 3, .documented, some 4⟩,
  ⟨0x0E, .ASL, .absolute, 3, .documented, some 6⟩,
  ⟨0x0F, .SLO, .absolute, 3, .undocumented, some 6⟩]

/-- Opcodes 0x10 to 0x1F of the opcode table (R88): byte, mnemonic, mode, length, status, base cycles. -/
def opRow1 : List OpEntry := [
  ⟨0x10, .BPL, .relative, 2, .documented, some 2⟩,
  ⟨0x11, .ORA, .indirectY, 2, .documented, some 5⟩,
  ⟨0x12, .KIL, .implied, 1, .undocumented, none⟩,
  ⟨0x13, .SLO, .indirectY, 2, .undocumented, some 8⟩,
  ⟨0x14, .NOP, .zeroPageX, 2, .undocumented, some 4⟩,
  ⟨0x15, .ORA, .zeroPageX, 2, .documented, some 4⟩,
  ⟨0x16, .ASL, .zeroPageX, 2, .documented, some 6⟩,
  ⟨0x17, .SLO, .zeroPageX, 2, .undocumented, some 6⟩,
  ⟨0x18, .CLC, .implied, 1, .documented, some 2⟩,
  ⟨0x19, .ORA, .absoluteY, 3, .documented, some 4⟩,
  ⟨0x1A, .NOP, .implied, 1, .undocumented, some 2⟩,
  ⟨0x1B, .SLO, .absoluteY, 3, .undocumented, some 7⟩,
  ⟨0x1C, .NOP, .absoluteX, 3, .undocumented, some 4⟩,
  ⟨0x1D, .ORA, .absoluteX, 3, .documented, some 4⟩,
  ⟨0x1E, .ASL, .absoluteX, 3, .documented, some 7⟩,
  ⟨0x1F, .SLO, .absoluteX, 3, .undocumented, some 7⟩]

/-- Opcodes 0x20 to 0x2F of the opcode table (R88): byte, mnemonic, mode, length, status, base cycles. -/
def opRow2 : List OpEntry := [
  ⟨0x20, .JSR, .absolute, 3, .documented, some 6⟩,
  ⟨0x21, .AND, .indirectX, 2, .documented, some 6⟩,
  ⟨0x22, .KIL, .implied, 1, .undocumented, none⟩,
  ⟨0x23, .RLA, .indirectX, 2, .undocumented, some 8⟩,
  ⟨0x24, .BIT, .zeroPage, 2, .documented, some 3⟩,
  ⟨0x25, .AND, .zeroPage, 2, .documented, some 3⟩,
  ⟨0x26, .ROL, .zeroPage, 2, .documented, some 5⟩,
  ⟨0x27, .RLA, .zeroPage, 2, .undocumented, some 5⟩,
  ⟨0x28, .PLP, .implied, 1, .documented, some 4⟩,
  ⟨0x29, .AND, .immediate, 2, .documented, some 2⟩,
  ⟨0x2A, .ROL, .accumulator, 1, .documented, some 2⟩,
  ⟨0x2B, .ANC, .immediate, 2, .undocumented, some 2⟩,
  ⟨0x2C, .BIT, .absolute, 3, .documented, some 4⟩,
  ⟨0x2D, .AND, .absolute, 3, .documented, some 4⟩,
  ⟨0x2E, .ROL, .absolute, 3, .documented, some 6⟩,
  ⟨0x2F, .RLA, .absolute, 3, .undocumented, some 6⟩]

/-- Opcodes 0x30 to 0x3F of the opcode table (R88): byte, mnemonic, mode, length, status, base cycles. -/
def opRow3 : List OpEntry := [
  ⟨0x30, .BMI, .relative, 2, .documented, some 2⟩,
  ⟨0x31, .AND, .indirectY, 2, .documented, some 5⟩,
  ⟨0x32, .KIL, .implied, 1, .undocumented, none⟩,
  ⟨0x33, .RLA, .indirectY, 2, .undocumented, some 8⟩,
  ⟨0x34, .NOP, .zeroPageX, 2, .undocumented, some 4⟩,
  ⟨0x35, .AND, .zeroPageX, 2, .documented, some 4⟩,
  ⟨0x36, .ROL, .zeroPageX, 2, .documented, some 6⟩,
  ⟨0x37, .RLA, .zeroPageX, 2, .undocumented, some 6⟩,
  ⟨0x38, .SEC, .implied, 1, .documented, some 2⟩,
  ⟨0x39, .AND, .absoluteY, 3, .documented, some 4⟩,
  ⟨0x3A, .NOP, .implied, 1, .undocumented, some 2⟩,
  ⟨0x3B, .RLA, .absoluteY, 3, .undocumented, some 7⟩,
  ⟨0x3C, .NOP, .absoluteX, 3, .undocumented, some 4⟩,
  ⟨0x3D, .AND, .absoluteX, 3, .documented, some 4⟩,
  ⟨0x3E, .ROL, .absoluteX, 3, .documented, some 7⟩,
  ⟨0x3F, .RLA, .absoluteX, 3, .undocumented, some 7⟩]

/-- Opcodes 0x40 to 0x4F of the opcode table (R88): byte, mnemonic, mode, length, status, base cycles. -/
def opRow4 : List OpEntry := [
  ⟨0x40, .RTI, .implied, 1, .documented, some 6⟩,
  ⟨0x41, .EOR, .indirectX, 2, .documented, some 6⟩,
  ⟨0x42, .KIL, .implied, 1, .undocumented, none⟩,
  ⟨0x43, .SRE, .indirectX, 2, .undocumented, some 8⟩,
  ⟨0x44, .NOP, .zeroPage, 2, .undocumented, some 3⟩,
  ⟨0x45, .EOR, .zeroPage, 2, .documented, some 3⟩,
  ⟨0x46, .LSR, .zeroPage, 2, .documented, some 5⟩,
  ⟨0x47, .SRE, .zeroPage, 2, .undocumented, some 5⟩,
  ⟨0x48, .PHA, .implied, 1, .documented, some 3⟩,
  ⟨0x49, .EOR, .immediate, 2, .documented, some 2⟩,
  ⟨0x4A, .LSR, .accumulator, 1, .documented, some 2⟩,
  ⟨0x4B, .ALR, .immediate, 2, .undocumented, some 2⟩,
  ⟨0x4C, .JMP, .absolute, 3, .documented, some 3⟩,
  ⟨0x4D, .EOR, .absolute, 3, .documented, some 4⟩,
  ⟨0x4E, .LSR, .absolute, 3, .documented, some 6⟩,
  ⟨0x4F, .SRE, .absolute, 3, .undocumented, some 6⟩]

/-- Opcodes 0x50 to 0x5F of the opcode table (R88): byte, mnemonic, mode, length, status, base cycles. -/
def opRow5 : List OpEntry := [
  ⟨0x50, .BVC, .relative, 2, .documented, some 2⟩,
  ⟨0x51, .EOR, .indirectY, 2, .documented, some 5⟩,
  ⟨0x52, .KIL, .implied, 1, .undocumented, none⟩,
  ⟨0x53, .SRE, .indirectY, 2, .undocumented, some 8⟩,
  ⟨0x54, .NOP, .zeroPageX, 2, .undocumented, some 4⟩,
  ⟨0x55, .EOR, .zeroPageX, 2, .documented, some 4⟩,
  ⟨0x56, .LSR, .zeroPageX, 2, .documented, some 6⟩,
  ⟨0x57, .SRE, .zeroPageX, 2, .undocumented, some 6⟩,
  ⟨0x58, .CLI, .implied, 1, .documented, some 2⟩,
  ⟨0x59, .EOR, .absoluteY, 3, .documented, some 4⟩,
  ⟨0x5A, .NOP, .implied, 1, .undocumented, some 2⟩,
  ⟨0x5B, .SRE, .absoluteY, 3, .undocumented, some 7⟩,
  ⟨0x5C, .NOP, .absoluteX, 3, .undocumented, some 4⟩,
  ⟨0x5D, .EOR, .absoluteX, 3, .documented, some 4⟩,
  ⟨0x5E, .LSR, .absoluteX, 3, .documented, some 7⟩,
  ⟨0x5F, .SRE, .absoluteX, 3, .undocumented, some 7⟩]

/-- Opcodes 0x60 to 0x6F of the opcode table (R88): byte, mnemonic, mode, length, status, base cycles. -/
def opRow6 : List OpEntry := [
  ⟨0x60, .RTS, .implied, 1, .documented, some 6⟩,
  ⟨0x61, .ADC, .indirectX, 2, .documented, some 6⟩,
  ⟨0x62, .KIL, .implied, 1, .undocumented, none⟩,
  ⟨0x63, .RRA, .indirectX, 2, .undocumented, some 8⟩,
  ⟨0x64, .NOP, .zeroPage, 2, .undocumented, some 3⟩,
  ⟨0x65, .ADC, .zeroPage, 2, .documented, some 3⟩,
  ⟨0x66, .ROR, .zeroPage, 2, .documented, some 5⟩,
  ⟨0x67, .RRA, .zeroPage, 2, .undocumented, some 5⟩,
  ⟨0x68, .PLA, .implied, 1, .documented, some 4⟩,
  ⟨0x69, .ADC, .immediate, 2, .documented, some 2⟩,
  ⟨0x6A, .ROR, .accumulator, 1, .documented, some 2⟩,
  ⟨0x6B, .ARR, .immediate, 2, .undocumented, some 2⟩,
  ⟨0x6C, .JMP, .indirect, 3, .documented, some 5⟩,
  ⟨0x6D, .ADC, .absolute, 3, .documented, some 4⟩,
  ⟨0x6E, .ROR, .absolute, 3, .documented, some 6⟩,
  ⟨0x6F, .RRA, .absolute, 3, .undocumented, some 6⟩]

/-- Opcodes 0x70 to 0x7F of the opcode table (R88): byte, mnemonic, mode, length, status, base cycles. -/
def opRow7 : List OpEntry := [
  ⟨0x70, .BVS, .relative, 2, .documented, some 2⟩,
  ⟨0x71, .ADC, .indirectY, 2, .documented, some 5⟩,
  ⟨0x72, .KIL, .implied, 1, .undocumented, none⟩,
  ⟨0x73, .RRA, .indirectY, 2, .undocumented, some 8⟩,
  ⟨0x74, .NOP, .zeroPageX, 2, .undocumented, some 4⟩,
  ⟨0x75, .ADC, .zeroPageX, 2, .documented, some 4⟩,
  ⟨0x76, .ROR, .zeroPageX, 2, .documented, some 6⟩,
  ⟨0x77, .RRA, .zeroPageX, 2, .undocumented, some 6⟩,
  ⟨0x78, .SEI, .implied, 1, .documented, some 2⟩,
  ⟨0x79, .ADC, .absoluteY, 3, .documented, some 4⟩,
  ⟨0x7A, .NOP, .implied, 1, .undocumented, some 2⟩,
  ⟨0x7B, .RRA, .absoluteY, 3, .undocumented, some 7⟩,
  ⟨0x7C, .NOP, .absoluteX, 3, .undocumented, some 4⟩,
  ⟨0x7D, .ADC, .absoluteX, 3, .documented, some 4⟩,
  ⟨0x7E, .ROR, .absoluteX, 3, .documented, some 7⟩,
  ⟨0x7F, .RRA, .absoluteX, 3, .undocumented, some 7⟩]

/-- Opcodes 0x80 to 0x8F of the opcode table (R88): byte, mnemonic, mode, length, status, base cycles. -/
def opRow8 : List OpEntry := [
  ⟨0x80, .NOP, .immediate, 2, .undocumented, some 2⟩,
  ⟨0x81, .STA, .indirectX, 2, .documented, some 6⟩,
  ⟨0x82, .NOP, .immediate, 2, .undocumented, some 2⟩,
  ⟨0x83, .SAX, .indirectX, 2, .undocumented, some 6⟩,
  ⟨0x84, .STY, .zeroPage, 2, .documented, some 3⟩,
  ⟨0x85, .STA, .zeroPage, 2, .documented, some 3⟩,
  ⟨0x86, .STX, .zeroPage, 2, .documented, some 3⟩,
  ⟨0x87, .SAX, .zeroPage, 2, .undocumented, some 3⟩,
  ⟨0x88, .DEY, .implied, 1, .documented, some 2⟩,
  ⟨0x89, .NOP, .immediate, 2, .undocumented, some 2⟩,
  ⟨0x8A, .TXA, .implied, 1, .documented, some 2⟩,
  ⟨0x8B, .XAA, .immediate, 2, .unstable, some 2⟩,
  ⟨0x8C, .STY, .absolute, 3, .documented, some 4⟩,
  ⟨0x8D, .STA, .absolute, 3, .documented, some 4⟩,
  ⟨0x8E, .STX, .absolute, 3, .documented, some 4⟩,
  ⟨0x8F, .SAX, .absolute, 3, .undocumented, some 4⟩]

/-- Opcodes 0x90 to 0x9F of the opcode table (R88): byte, mnemonic, mode, length, status, base cycles. -/
def opRow9 : List OpEntry := [
  ⟨0x90, .BCC, .relative, 2, .documented, some 2⟩,
  ⟨0x91, .STA, .indirectY, 2, .documented, some 6⟩,
  ⟨0x92, .KIL, .implied, 1, .undocumented, none⟩,
  ⟨0x93, .SHA, .indirectY, 2, .unstable, some 6⟩,
  ⟨0x94, .STY, .zeroPageX, 2, .documented, some 4⟩,
  ⟨0x95, .STA, .zeroPageX, 2, .documented, some 4⟩,
  ⟨0x96, .STX, .zeroPageY, 2, .documented, some 4⟩,
  ⟨0x97, .SAX, .zeroPageY, 2, .undocumented, some 4⟩,
  ⟨0x98, .TYA, .implied, 1, .documented, some 2⟩,
  ⟨0x99, .STA, .absoluteY, 3, .documented, some 5⟩,
  ⟨0x9A, .TXS, .implied, 1, .documented, some 2⟩,
  ⟨0x9B, .TAS, .absoluteY, 3, .unstable, some 5⟩,
  ⟨0x9C, .SHY, .absoluteX, 3, .unstable, some 5⟩,
  ⟨0x9D, .STA, .absoluteX, 3, .documented, some 5⟩,
  ⟨0x9E, .SHX, .absoluteY, 3, .unstable, some 5⟩,
  ⟨0x9F, .SHA, .absoluteY, 3, .unstable, some 5⟩]

/-- Opcodes 0xA0 to 0xAF of the opcode table (R88): byte, mnemonic, mode, length, status, base cycles. -/
def opRowA : List OpEntry := [
  ⟨0xA0, .LDY, .immediate, 2, .documented, some 2⟩,
  ⟨0xA1, .LDA, .indirectX, 2, .documented, some 6⟩,
  ⟨0xA2, .LDX, .immediate, 2, .documented, some 2⟩,
  ⟨0xA3, .LAX, .indirectX, 2, .undocumented, some 6⟩,
  ⟨0xA4, .LDY, .zeroPage, 2, .documented, some 3⟩,
  ⟨0xA5, .LDA, .zeroPage, 2, .documented, some 3⟩,
  ⟨0xA6, .LDX, .zeroPage, 2, .documented, some 3⟩,
  ⟨0xA7, .LAX, .zeroPage, 2, .undocumented, some 3⟩,
  ⟨0xA8, .TAY, .implied, 1, .documented, some 2⟩,
  ⟨0xA9, .LDA, .immediate, 2, .documented, some 2⟩,
  ⟨0xAA, .TAX, .implied, 1, .documented, some 2⟩,
  ⟨0xAB, .LXA, .immediate, 2, .unstable, some 2⟩,
  ⟨0xAC, .LDY, .absolute, 3, .documented, some 4⟩,
  ⟨0xAD, .LDA, .absolute, 3, .documented, some 4⟩,
  ⟨0xAE, .LDX, .absolute, 3, .documented, some 4⟩,
  ⟨0xAF, .LAX, .absolute, 3, .undocumented, some 4⟩]

/-- Opcodes 0xB0 to 0xBF of the opcode table (R88): byte, mnemonic, mode, length, status, base cycles. -/
def opRowB : List OpEntry := [
  ⟨0xB0, .BCS, .relative, 2, .documented, some 2⟩,
  ⟨0xB1, .LDA, .indirectY, 2, .documented, some 5⟩,
  ⟨0xB2, .KIL, .implied, 1, .undocumented, none⟩,
  ⟨0xB3, .LAX, .indirectY, 2, .undocumented, some 5⟩,
  ⟨0xB4, .LDY, .zeroPageX, 2, .documented, some 4⟩,
  ⟨0xB5, .LDA, .zeroPageX, 2, .documented, some 4⟩,
  ⟨0xB6, .LDX, .zeroPageY, 2, .documented, some 4⟩,
  ⟨0xB7, .LAX, .zeroPageY, 2, .undocumented, some 4⟩,
  ⟨0xB8, .CLV, .implied, 1, .documented, some 2⟩,
  ⟨0xB9, .LDA, .absoluteY, 3, .documented, some 4⟩,
  ⟨0xBA, .TSX, .implied, 1, .documented, some 2⟩,
  ⟨0xBB, .LAS, .absoluteY, 3, .undocumented, some 4⟩,
  ⟨0xBC, .LDY, .absoluteX, 3, .documented, some 4⟩,
  ⟨0xBD, .LDA, .absoluteX, 3, .documented, some 4⟩,
  ⟨0xBE, .LDX, .absoluteY, 3, .documented, some 4⟩,
  ⟨0xBF, .LAX, .absoluteY, 3, .undocumented, some 4⟩]

/-- Opcodes 0xC0 to 0xCF of the opcode table (R88): byte, mnemonic, mode, length, status, base cycles. -/
def opRowC : List OpEntry := [
  ⟨0xC0, .CPY, .immediate, 2, .documented, some 2⟩,
  ⟨0xC1, .CMP, .indirectX, 2, .documented, some 6⟩,
  ⟨0xC2, .NOP, .immediate, 2, .undocumented, some 2⟩,
  ⟨0xC3, .DCP, .indirectX, 2, .undocumented, some 8⟩,
  ⟨0xC4, .CPY, .zeroPage, 2, .documented, some 3⟩,
  ⟨0xC5, .CMP, .zeroPage, 2, .documented, some 3⟩,
  ⟨0xC6, .DEC, .zeroPage, 2, .documented, some 5⟩,
  ⟨0xC7, .DCP, .zeroPage, 2, .undocumented, some 5⟩,
  ⟨0xC8, .INY, .implied, 1, .documented, some 2⟩,
  ⟨0xC9, .CMP, .immediate, 2, .documented, some 2⟩,
  ⟨0xCA, .DEX, .implied, 1, .documented, some 2⟩,
  ⟨0xCB, .AXS, .immediate, 2, .undocumented, some 2⟩,
  ⟨0xCC, .CPY, .absolute, 3, .documented, some 4⟩,
  ⟨0xCD, .CMP, .absolute, 3, .documented, some 4⟩,
  ⟨0xCE, .DEC, .absolute, 3, .documented, some 6⟩,
  ⟨0xCF, .DCP, .absolute, 3, .undocumented, some 6⟩]

/-- Opcodes 0xD0 to 0xDF of the opcode table (R88): byte, mnemonic, mode, length, status, base cycles. -/
def opRowD : List OpEntry := [
  ⟨0xD0, .BNE, .relative, 2, .documented, some 2⟩,
  ⟨0xD1, .CMP, .indirectY, 2, .documented, some 5⟩,
  ⟨0xD2, .KIL, .implied, 1, .undocumented, none⟩,
  ⟨0xD3, .DCP, .indirectY, 2, .undocumented, some 8⟩,
  ⟨0xD4, .NOP, .zeroPageX, 2, .undocumented, some 4⟩,
  ⟨0xD5, .CMP, .zeroPageX, 2, .documented, some 4⟩,
  ⟨0xD6, .DEC, .zeroPageX, 2, .documented, some 6⟩,
  ⟨0xD7, .DCP, .zeroPageX, 2, .undocumented, some 6⟩,
  ⟨0xD8, .CLD, .implied, 1, .documented, some 2⟩,
  ⟨0xD9, .CMP, .absoluteY, 3, .documented, some 4⟩,
  ⟨0xDA, .NOP, .implied, 1, .undocumented, some 2⟩,
  ⟨0xDB, .DCP, .absoluteY, 3, .undocumented, some 7⟩,
  ⟨0xDC, .NOP, .absoluteX, 3, .undocumented, some 4⟩,
  ⟨0xDD, .CMP, .absoluteX, 3, .documented, some 4⟩,
  ⟨0xDE, .DEC, .absoluteX, 3, .documented, some 7⟩,
  ⟨0xDF, .DCP, .absoluteX, 3, .undocumented, some 7⟩]

/-- Opcodes 0xE0 to 0xEF of the opcode table (R88): byte, mnemonic, mode, length, status, base cycles. -/
def opRowE : List OpEntry := [
  ⟨0xE0, .CPX, .immediate, 2, .documented, some 2⟩,
  ⟨0xE1, .SBC, .indirectX, 2, .documented, some 6⟩,
  ⟨0xE2, .NOP, .immediate, 2, .undocumented, some 2⟩,
  ⟨0xE3, .ISC, .indirectX, 2, .undocumented, some 8⟩,
  ⟨0xE4, .CPX, .zeroPage, 2, .documented, some 3⟩,
  ⟨0xE5, .SBC, .zeroPage, 2, .documented, some 3⟩,
  ⟨0xE6, .INC, .zeroPage, 2, .documented, some 5⟩,
  ⟨0xE7, .ISC, .zeroPage, 2, .undocumented, some 5⟩,
  ⟨0xE8, .INX, .implied, 1, .documented, some 2⟩,
  ⟨0xE9, .SBC, .immediate, 2, .documented, some 2⟩,
  ⟨0xEA, .NOP, .implied, 1, .documented, some 2⟩,
  ⟨0xEB, .SBC, .immediate, 2, .undocumented, some 2⟩,
  ⟨0xEC, .CPX, .absolute, 3, .documented, some 4⟩,
  ⟨0xED, .SBC, .absolute, 3, .documented, some 4⟩,
  ⟨0xEE, .INC, .absolute, 3, .documented, some 6⟩,
  ⟨0xEF, .ISC, .absolute, 3, .undocumented, some 6⟩]

/-- Opcodes 0xF0 to 0xFF of the opcode table (R88): byte, mnemonic, mode, length, status, base cycles. -/
def opRowF : List OpEntry := [
  ⟨0xF0, .BEQ, .relative, 2, .documented, some 2⟩,
  ⟨0xF1, .SBC, .indirectY, 2, .documented, some 5⟩,
  ⟨0xF2, .KIL, .implied, 1, .undocumented, none⟩,
  ⟨0xF3, .ISC, .indirectY, 2, .undocumented, some 8⟩,
  ⟨0xF4, .NOP, .zeroPageX, 2, .undocumented, some 4⟩,
  ⟨0xF5, .SBC, .zeroPageX, 2, .documented, some 4⟩,
  ⟨0xF6, .INC, .zeroPageX, 2, .documented, some 6⟩,
  ⟨0xF7, .ISC, .zeroPageX, 2, .undocumented, some 6⟩,
  ⟨0xF8, .SED, .implied, 1, .documented, some 2⟩,
  ⟨0xF9, .SBC, .absoluteY, 3, .documented, some 4⟩,
  ⟨0xFA, .NOP, .implied, 1, .undocumented, some 2⟩,
  ⟨0xFB, .ISC, .absoluteY, 3, .undocumented, some 7⟩,
  ⟨0xFC, .NOP, .absoluteX, 3, .undocumented, some 4⟩,
  ⟨0xFD, .SBC, .absoluteX, 3, .documented, some 4⟩,
  ⟨0xFE, .INC, .absoluteX, 3, .documented, some 7⟩,
  ⟨0xFF, .ISC, .absoluteX, 3, .undocumented, some 7⟩]

/-- The opcode table, one entry per byte value, in byte order (R36, R87, R88). -/
def opTable : List OpEntry :=
  opRow0 ++ opRow1 ++ opRow2 ++ opRow3 ++ opRow4 ++ opRow5 ++ opRow6 ++ opRow7 ++
  opRow8 ++ opRow9 ++ opRowA ++ opRowB ++ opRowC ++ opRowD ++ opRowE ++ opRowF

/-- `OPTABLE[op]`; `none` is the lookup miss of R301, which this total table never gives (C6). -/
def opEntry (op : Byte) : Option OpEntry := opTable[op.toNat]?

/-- What an opcode byte builds from its operand bytes: the formats F1, F2 and F3 (R81). -/
inductive Shape where
  | f1 (i : Instr)
  | f2 (build : Byte → Instr)
  | f3 (build : Addr → Instr)

/-- Row 0x0x of the opcode map (R89): what each opcode byte builds. -/
def instrRow0 : List Shape := [
  .f1 .brk, .f2 .oraIndirectX, .f1 .kil02, .f2 .sloIndirectX,
  .f2 .nopZeroPage04, .f2 .oraZeroPage, .f2 .aslZeroPage, .f2 .sloZeroPage,
  .f1 .php, .f2 .oraImmediate, .f1 .aslAccumulator, .f2 .ancImmediate0B,
  .f3 .nopAbsolute, .f3 .oraAbsolute, .f3 .aslAbsolute, .f3 .sloAbsolute]

/-- Row 0x1x of the opcode map (R89): what each opcode byte builds. -/
def instrRow1 : List Shape := [
  .f2 .bpl, .f2 .oraIndirectY, .f1 .kil12, .f2 .sloIndirectY,
  .f2 .nopZeroPageX14, .f2 .oraZeroPageX, .f2 .aslZeroPageX, .f2 .sloZeroPageX,
  .f1 .clc, .f3 .oraAbsoluteY, .f1 .nop1A, .f3 .sloAbsoluteY,
  .f3 .nopAbsoluteX1C, .f3 .oraAbsoluteX, .f3 .aslAbsoluteX, .f3 .sloAbsoluteX]

/-- Row 0x2x of the opcode map (R89): what each opcode byte builds. -/
def instrRow2 : List Shape := [
  .f3 .jsrAbsolute, .f2 .andIndirectX, .f1 .kil22, .f2 .rlaIndirectX,
  .f2 .bitZeroPage, .f2 .andZeroPage, .f2 .rolZeroPage, .f2 .rlaZeroPage,
  .f1 .plp, .f2 .andImmediate, .f1 .rolAccumulator, .f2 .ancImmediate2B,
  .f3 .bitAbsolute, .f3 .andAbsolute, .f3 .rolAbsolute, .f3 .rlaAbsolute]

/-- Row 0x3x of the opcode map (R89): what each opcode byte builds. -/
def instrRow3 : List Shape := [
  .f2 .bmi, .f2 .andIndirectY, .f1 .kil32, .f2 .rlaIndirectY,
  .f2 .nopZeroPageX34, .f2 .andZeroPageX, .f2 .rolZeroPageX, .f2 .rlaZeroPageX,
  .f1 .sec, .f3 .andAbsoluteY, .f1 .nop3A, .f3 .rlaAbsoluteY,
  .f3 .nopAbsoluteX3C, .f3 .andAbsoluteX, .f3 .rolAbsoluteX, .f3 .rlaAbsoluteX]

/-- Row 0x4x of the opcode map (R89): what each opcode byte builds. -/
def instrRow4 : List Shape := [
  .f1 .rti, .f2 .eorIndirectX, .f1 .kil42, .f2 .sreIndirectX,
  .f2 .nopZeroPage44, .f2 .eorZeroPage, .f2 .lsrZeroPage, .f2 .sreZeroPage,
  .f1 .pha, .f2 .eorImmediate, .f1 .lsrAccumulator, .f2 .alrImmediate,
  .f3 .jmpAbsolute, .f3 .eorAbsolute, .f3 .lsrAbsolute, .f3 .sreAbsolute]

/-- Row 0x5x of the opcode map (R89): what each opcode byte builds. -/
def instrRow5 : List Shape := [
  .f2 .bvc, .f2 .eorIndirectY, .f1 .kil52, .f2 .sreIndirectY,
  .f2 .nopZeroPageX54, .f2 .eorZeroPageX, .f2 .lsrZeroPageX, .f2 .sreZeroPageX,
  .f1 .cli, .f3 .eorAbsoluteY, .f1 .nop5A, .f3 .sreAbsoluteY,
  .f3 .nopAbsoluteX5C, .f3 .eorAbsoluteX, .f3 .lsrAbsoluteX, .f3 .sreAbsoluteX]

/-- Row 0x6x of the opcode map (R89): what each opcode byte builds. -/
def instrRow6 : List Shape := [
  .f1 .rts, .f2 .adcIndirectX, .f1 .kil62, .f2 .rraIndirectX,
  .f2 .nopZeroPage64, .f2 .adcZeroPage, .f2 .rorZeroPage, .f2 .rraZeroPage,
  .f1 .pla, .f2 .adcImmediate, .f1 .rorAccumulator, .f2 .arrImmediate,
  .f3 .jmpIndirect, .f3 .adcAbsolute, .f3 .rorAbsolute, .f3 .rraAbsolute]

/-- Row 0x7x of the opcode map (R89): what each opcode byte builds. -/
def instrRow7 : List Shape := [
  .f2 .bvs, .f2 .adcIndirectY, .f1 .kil72, .f2 .rraIndirectY,
  .f2 .nopZeroPageX74, .f2 .adcZeroPageX, .f2 .rorZeroPageX, .f2 .rraZeroPageX,
  .f1 .sei, .f3 .adcAbsoluteY, .f1 .nop7A, .f3 .rraAbsoluteY,
  .f3 .nopAbsoluteX7C, .f3 .adcAbsoluteX, .f3 .rorAbsoluteX, .f3 .rraAbsoluteX]

/-- Row 0x8x of the opcode map (R89): what each opcode byte builds. -/
def instrRow8 : List Shape := [
  .f2 .nopImmediate80, .f2 .staIndirectX, .f2 .nopImmediate82, .f2 .saxIndirectX,
  .f2 .styZeroPage, .f2 .staZeroPage, .f2 .stxZeroPage, .f2 .saxZeroPage,
  .f1 .dey, .f2 .nopImmediate89, .f1 .txa, .f2 .xaaImmediate,
  .f3 .styAbsolute, .f3 .staAbsolute, .f3 .stxAbsolute, .f3 .saxAbsolute]

/-- Row 0x9x of the opcode map (R89): what each opcode byte builds. -/
def instrRow9 : List Shape := [
  .f2 .bcc, .f2 .staIndirectY, .f1 .kil92, .f2 .shaIndirectY,
  .f2 .styZeroPageX, .f2 .staZeroPageX, .f2 .stxZeroPageY, .f2 .saxZeroPageY,
  .f1 .tya, .f3 .staAbsoluteY, .f1 .txs, .f3 .tasAbsoluteY,
  .f3 .shyAbsoluteX, .f3 .staAbsoluteX, .f3 .shxAbsoluteY, .f3 .shaAbsoluteY]

/-- Row 0xAx of the opcode map (R89): what each opcode byte builds. -/
def instrRowA : List Shape := [
  .f2 .ldyImmediate, .f2 .ldaIndirectX, .f2 .ldxImmediate, .f2 .laxIndirectX,
  .f2 .ldyZeroPage, .f2 .ldaZeroPage, .f2 .ldxZeroPage, .f2 .laxZeroPage,
  .f1 .tay, .f2 .ldaImmediate, .f1 .tax, .f2 .lxaImmediate,
  .f3 .ldyAbsolute, .f3 .ldaAbsolute, .f3 .ldxAbsolute, .f3 .laxAbsolute]

/-- Row 0xBx of the opcode map (R89): what each opcode byte builds. -/
def instrRowB : List Shape := [
  .f2 .bcs, .f2 .ldaIndirectY, .f1 .kilB2, .f2 .laxIndirectY,
  .f2 .ldyZeroPageX, .f2 .ldaZeroPageX, .f2 .ldxZeroPageY, .f2 .laxZeroPageY,
  .f1 .clv, .f3 .ldaAbsoluteY, .f1 .tsx, .f3 .lasAbsoluteY,
  .f3 .ldyAbsoluteX, .f3 .ldaAbsoluteX, .f3 .ldxAbsoluteY, .f3 .laxAbsoluteY]

/-- Row 0xCx of the opcode map (R89): what each opcode byte builds. -/
def instrRowC : List Shape := [
  .f2 .cpyImmediate, .f2 .cmpIndirectX, .f2 .nopImmediateC2, .f2 .dcpIndirectX,
  .f2 .cpyZeroPage, .f2 .cmpZeroPage, .f2 .decZeroPage, .f2 .dcpZeroPage,
  .f1 .iny, .f2 .cmpImmediate, .f1 .dex, .f2 .axsImmediate,
  .f3 .cpyAbsolute, .f3 .cmpAbsolute, .f3 .decAbsolute, .f3 .dcpAbsolute]

/-- Row 0xDx of the opcode map (R89): what each opcode byte builds. -/
def instrRowD : List Shape := [
  .f2 .bne, .f2 .cmpIndirectY, .f1 .kilD2, .f2 .dcpIndirectY,
  .f2 .nopZeroPageXD4, .f2 .cmpZeroPageX, .f2 .decZeroPageX, .f2 .dcpZeroPageX,
  .f1 .cld, .f3 .cmpAbsoluteY, .f1 .nopDA, .f3 .dcpAbsoluteY,
  .f3 .nopAbsoluteXDC, .f3 .cmpAbsoluteX, .f3 .decAbsoluteX, .f3 .dcpAbsoluteX]

/-- Row 0xEx of the opcode map (R89): what each opcode byte builds. -/
def instrRowE : List Shape := [
  .f2 .cpxImmediate, .f2 .sbcIndirectX, .f2 .nopImmediateE2, .f2 .iscIndirectX,
  .f2 .cpxZeroPage, .f2 .sbcZeroPage, .f2 .incZeroPage, .f2 .iscZeroPage,
  .f1 .inx, .f2 .sbcImmediateE9, .f1 .nopEA, .f2 .sbcImmediateEB,
  .f3 .cpxAbsolute, .f3 .sbcAbsolute, .f3 .incAbsolute, .f3 .iscAbsolute]

/-- Row 0xFx of the opcode map (R89): what each opcode byte builds. -/
def instrRowF : List Shape := [
  .f2 .beq, .f2 .sbcIndirectY, .f1 .kilF2, .f2 .iscIndirectY,
  .f2 .nopZeroPageXF4, .f2 .sbcZeroPageX, .f2 .incZeroPageX, .f2 .iscZeroPageX,
  .f1 .sed, .f3 .sbcAbsoluteY, .f1 .nopFA, .f3 .iscAbsoluteY,
  .f3 .nopAbsoluteXFC, .f3 .sbcAbsoluteX, .f3 .incAbsoluteX, .f3 .iscAbsoluteX]

/-- The opcode map (R89), in byte order. -/
def instrTable : List Shape :=
  instrRow0 ++ instrRow1 ++ instrRow2 ++ instrRow3 ++ instrRow4 ++ instrRow5 ++ instrRow6 ++
  instrRow7 ++ instrRow8 ++ instrRow9 ++ instrRowA ++ instrRowB ++ instrRowC ++ instrRowD ++
  instrRowE ++ instrRowF

/-- Why bytes are no instruction. -/
inductive DecodeError where
  /-- there is no byte at all -/
  | noBytes
  /-- the opcode byte has no entry in the table: `UnknownOpcode` of R301, unreachable (C6) -/
  | unknownOpcode (op : Byte)
  /-- the bytes end inside the operand of the instruction; a fetch never gives this (R101, R107) -/
  | truncated (op : Byte)
  deriving DecidableEq, Repr

/-- Decodes one instruction and gives the bytes after it. The opcode byte alone selects the
instruction (R82, R85); a 16-bit operand has its low byte first (R64, R84). -/
def decode : List Byte → Except DecodeError (Instr × List Byte)
  | [] => .error .noBytes
  | op :: rest =>
    match instrTable[op.toNat]?, rest with
    | none, _ => .error (.unknownOpcode op)
    | some (.f1 i), rest => .ok (i, rest)
    | some (.f2 build), b1 :: rest => .ok (build b1, rest)
    | some (.f3 build), b1 :: b2 :: rest => .ok (build (word b2 b1), rest)
    | some (.f2 _), [] => .error (.truncated op)
    | some (.f3 _), [] => .error (.truncated op)
    | some (.f3 _), [_] => .error (.truncated op)

/-- The opcode byte of an instruction (R88). -/
def Instr.opcode : Instr → Byte
  | .oraIndirectX _ => 0x01
  | .sloIndirectX _ => 0x03
  | .nopZeroPage04 _ => 0x04
  | .oraZeroPage _ => 0x05
  | .aslZeroPage _ => 0x06
  | .sloZeroPage _ => 0x07
  | .oraImmediate _ => 0x09
  | .ancImmediate0B _ => 0x0B
  | .nopAbsolute _ => 0x0C
  | .oraAbsolute _ => 0x0D
  | .aslAbsolute _ => 0x0E
  | .sloAbsolute _ => 0x0F
  | .bpl _ => 0x10
  | .oraIndirectY _ => 0x11
  | .sloIndirectY _ => 0x13
  | .nopZeroPageX14 _ => 0x14
  | .oraZeroPageX _ => 0x15
  | .aslZeroPageX _ => 0x16
  | .sloZeroPageX _ => 0x17
  | .oraAbsoluteY _ => 0x19
  | .sloAbsoluteY _ => 0x1B
  | .nopAbsoluteX1C _ => 0x1C
  | .oraAbsoluteX _ => 0x1D
  | .aslAbsoluteX _ => 0x1E
  | .sloAbsoluteX _ => 0x1F
  | .jsrAbsolute _ => 0x20
  | .andIndirectX _ => 0x21
  | .rlaIndirectX _ => 0x23
  | .bitZeroPage _ => 0x24
  | .andZeroPage _ => 0x25
  | .rolZeroPage _ => 0x26
  | .rlaZeroPage _ => 0x27
  | .andImmediate _ => 0x29
  | .ancImmediate2B _ => 0x2B
  | .bitAbsolute _ => 0x2C
  | .andAbsolute _ => 0x2D
  | .rolAbsolute _ => 0x2E
  | .rlaAbsolute _ => 0x2F
  | .bmi _ => 0x30
  | .andIndirectY _ => 0x31
  | .rlaIndirectY _ => 0x33
  | .nopZeroPageX34 _ => 0x34
  | .andZeroPageX _ => 0x35
  | .rolZeroPageX _ => 0x36
  | .rlaZeroPageX _ => 0x37
  | .andAbsoluteY _ => 0x39
  | .rlaAbsoluteY _ => 0x3B
  | .nopAbsoluteX3C _ => 0x3C
  | .andAbsoluteX _ => 0x3D
  | .rolAbsoluteX _ => 0x3E
  | .rlaAbsoluteX _ => 0x3F
  | .eorIndirectX _ => 0x41
  | .sreIndirectX _ => 0x43
  | .nopZeroPage44 _ => 0x44
  | .eorZeroPage _ => 0x45
  | .lsrZeroPage _ => 0x46
  | .sreZeroPage _ => 0x47
  | .eorImmediate _ => 0x49
  | .alrImmediate _ => 0x4B
  | .jmpAbsolute _ => 0x4C
  | .eorAbsolute _ => 0x4D
  | .lsrAbsolute _ => 0x4E
  | .sreAbsolute _ => 0x4F
  | .bvc _ => 0x50
  | .eorIndirectY _ => 0x51
  | .sreIndirectY _ => 0x53
  | .nopZeroPageX54 _ => 0x54
  | .eorZeroPageX _ => 0x55
  | .lsrZeroPageX _ => 0x56
  | .sreZeroPageX _ => 0x57
  | .eorAbsoluteY _ => 0x59
  | .sreAbsoluteY _ => 0x5B
  | .nopAbsoluteX5C _ => 0x5C
  | .eorAbsoluteX _ => 0x5D
  | .lsrAbsoluteX _ => 0x5E
  | .sreAbsoluteX _ => 0x5F
  | .adcIndirectX _ => 0x61
  | .rraIndirectX _ => 0x63
  | .nopZeroPage64 _ => 0x64
  | .adcZeroPage _ => 0x65
  | .rorZeroPage _ => 0x66
  | .rraZeroPage _ => 0x67
  | .adcImmediate _ => 0x69
  | .arrImmediate _ => 0x6B
  | .jmpIndirect _ => 0x6C
  | .adcAbsolute _ => 0x6D
  | .rorAbsolute _ => 0x6E
  | .rraAbsolute _ => 0x6F
  | .bvs _ => 0x70
  | .adcIndirectY _ => 0x71
  | .rraIndirectY _ => 0x73
  | .nopZeroPageX74 _ => 0x74
  | .adcZeroPageX _ => 0x75
  | .rorZeroPageX _ => 0x76
  | .rraZeroPageX _ => 0x77
  | .adcAbsoluteY _ => 0x79
  | .rraAbsoluteY _ => 0x7B
  | .nopAbsoluteX7C _ => 0x7C
  | .adcAbsoluteX _ => 0x7D
  | .rorAbsoluteX _ => 0x7E
  | .rraAbsoluteX _ => 0x7F
  | .nopImmediate80 _ => 0x80
  | .staIndirectX _ => 0x81
  | .nopImmediate82 _ => 0x82
  | .saxIndirectX _ => 0x83
  | .styZeroPage _ => 0x84
  | .staZeroPage _ => 0x85
  | .stxZeroPage _ => 0x86
  | .saxZeroPage _ => 0x87
  | .nopImmediate89 _ => 0x89
  | .xaaImmediate _ => 0x8B
  | .styAbsolute _ => 0x8C
  | .staAbsolute _ => 0x8D
  | .stxAbsolute _ => 0x8E
  | .saxAbsolute _ => 0x8F
  | .bcc _ => 0x90
  | .staIndirectY _ => 0x91
  | .shaIndirectY _ => 0x93
  | .styZeroPageX _ => 0x94
  | .staZeroPageX _ => 0x95
  | .stxZeroPageY _ => 0x96
  | .saxZeroPageY _ => 0x97
  | .staAbsoluteY _ => 0x99
  | .tasAbsoluteY _ => 0x9B
  | .shyAbsoluteX _ => 0x9C
  | .staAbsoluteX _ => 0x9D
  | .shxAbsoluteY _ => 0x9E
  | .shaAbsoluteY _ => 0x9F
  | .ldyImmediate _ => 0xA0
  | .ldaIndirectX _ => 0xA1
  | .ldxImmediate _ => 0xA2
  | .laxIndirectX _ => 0xA3
  | .ldyZeroPage _ => 0xA4
  | .ldaZeroPage _ => 0xA5
  | .ldxZeroPage _ => 0xA6
  | .laxZeroPage _ => 0xA7
  | .ldaImmediate _ => 0xA9
  | .lxaImmediate _ => 0xAB
  | .ldyAbsolute _ => 0xAC
  | .ldaAbsolute _ => 0xAD
  | .ldxAbsolute _ => 0xAE
  | .laxAbsolute _ => 0xAF
  | .bcs _ => 0xB0
  | .ldaIndirectY _ => 0xB1
  | .laxIndirectY _ => 0xB3
  | .ldyZeroPageX _ => 0xB4
  | .ldaZeroPageX _ => 0xB5
  | .ldxZeroPageY _ => 0xB6
  | .laxZeroPageY _ => 0xB7
  | .ldaAbsoluteY _ => 0xB9
  | .lasAbsoluteY _ => 0xBB
  | .ldyAbsoluteX _ => 0xBC
  | .ldaAbsoluteX _ => 0xBD
  | .ldxAbsoluteY _ => 0xBE
  | .laxAbsoluteY _ => 0xBF
  | .cpyImmediate _ => 0xC0
  | .cmpIndirectX _ => 0xC1
  | .nopImmediateC2 _ => 0xC2
  | .dcpIndirectX _ => 0xC3
  | .cpyZeroPage _ => 0xC4
  | .cmpZeroPage _ => 0xC5
  | .decZeroPage _ => 0xC6
  | .dcpZeroPage _ => 0xC7
  | .cmpImmediate _ => 0xC9
  | .axsImmediate _ => 0xCB
  | .cpyAbsolute _ => 0xCC
  | .cmpAbsolute _ => 0xCD
  | .decAbsolute _ => 0xCE
  | .dcpAbsolute _ => 0xCF
  | .bne _ => 0xD0
  | .cmpIndirectY _ => 0xD1
  | .dcpIndirectY _ => 0xD3
  | .nopZeroPageXD4 _ => 0xD4
  | .cmpZeroPageX _ => 0xD5
  | .decZeroPageX _ => 0xD6
  | .dcpZeroPageX _ => 0xD7
  | .cmpAbsoluteY _ => 0xD9
  | .dcpAbsoluteY _ => 0xDB
  | .nopAbsoluteXDC _ => 0xDC
  | .cmpAbsoluteX _ => 0xDD
  | .decAbsoluteX _ => 0xDE
  | .dcpAbsoluteX _ => 0xDF
  | .cpxImmediate _ => 0xE0
  | .sbcIndirectX _ => 0xE1
  | .nopImmediateE2 _ => 0xE2
  | .iscIndirectX _ => 0xE3
  | .cpxZeroPage _ => 0xE4
  | .sbcZeroPage _ => 0xE5
  | .incZeroPage _ => 0xE6
  | .iscZeroPage _ => 0xE7
  | .sbcImmediateE9 _ => 0xE9
  | .sbcImmediateEB _ => 0xEB
  | .cpxAbsolute _ => 0xEC
  | .sbcAbsolute _ => 0xED
  | .incAbsolute _ => 0xEE
  | .iscAbsolute _ => 0xEF
  | .beq _ => 0xF0
  | .sbcIndirectY _ => 0xF1
  | .iscIndirectY _ => 0xF3
  | .nopZeroPageXF4 _ => 0xF4
  | .sbcZeroPageX _ => 0xF5
  | .incZeroPageX _ => 0xF6
  | .iscZeroPageX _ => 0xF7
  | .sbcAbsoluteY _ => 0xF9
  | .iscAbsoluteY _ => 0xFB
  | .nopAbsoluteXFC _ => 0xFC
  | .sbcAbsoluteX _ => 0xFD
  | .incAbsoluteX _ => 0xFE
  | .iscAbsoluteX _ => 0xFF
  | .brk => 0x00
  | .kil02 => 0x02
  | .php => 0x08
  | .aslAccumulator => 0x0A
  | .kil12 => 0x12
  | .clc => 0x18
  | .nop1A => 0x1A
  | .kil22 => 0x22
  | .plp => 0x28
  | .rolAccumulator => 0x2A
  | .kil32 => 0x32
  | .sec => 0x38
  | .nop3A => 0x3A
  | .rti => 0x40
  | .kil42 => 0x42
  | .pha => 0x48
  | .lsrAccumulator => 0x4A
  | .kil52 => 0x52
  | .cli => 0x58
  | .nop5A => 0x5A
  | .rts => 0x60
  | .kil62 => 0x62
  | .pla => 0x68
  | .rorAccumulator => 0x6A
  | .kil72 => 0x72
  | .sei => 0x78
  | .nop7A => 0x7A
  | .dey => 0x88
  | .txa => 0x8A
  | .kil92 => 0x92
  | .tya => 0x98
  | .txs => 0x9A
  | .tay => 0xA8
  | .tax => 0xAA
  | .kilB2 => 0xB2
  | .clv => 0xB8
  | .tsx => 0xBA
  | .iny => 0xC8
  | .dex => 0xCA
  | .kilD2 => 0xD2
  | .cld => 0xD8
  | .nopDA => 0xDA
  | .inx => 0xE8
  | .nopEA => 0xEA
  | .kilF2 => 0xF2
  | .sed => 0xF8
  | .nopFA => 0xFA

/-- The operand form of an instruction: the mode of its opcode table row and its operand bytes (R84,
R88). -/
def Instr.operand : Instr → Operand
  | .oraIndirectX zp => .indirectX zp
  | .sloIndirectX zp => .indirectX zp
  | .nopZeroPage04 zp => .zeroPage zp
  | .oraZeroPage zp => .zeroPage zp
  | .aslZeroPage zp => .zeroPage zp
  | .sloZeroPage zp => .zeroPage zp
  | .oraImmediate imm => .immediate imm
  | .ancImmediate0B imm => .immediate imm
  | .nopAbsolute addr => .absolute addr
  | .oraAbsolute addr => .absolute addr
  | .aslAbsolute addr => .absolute addr
  | .sloAbsolute addr => .absolute addr
  | .bpl off => .relative off
  | .oraIndirectY zp => .indirectY zp
  | .sloIndirectY zp => .indirectY zp
  | .nopZeroPageX14 zp => .zeroPageX zp
  | .oraZeroPageX zp => .zeroPageX zp
  | .aslZeroPageX zp => .zeroPageX zp
  | .sloZeroPageX zp => .zeroPageX zp
  | .oraAbsoluteY addr => .absoluteY addr
  | .sloAbsoluteY addr => .absoluteY addr
  | .nopAbsoluteX1C addr => .absoluteX addr
  | .oraAbsoluteX addr => .absoluteX addr
  | .aslAbsoluteX addr => .absoluteX addr
  | .sloAbsoluteX addr => .absoluteX addr
  | .jsrAbsolute addr => .absolute addr
  | .andIndirectX zp => .indirectX zp
  | .rlaIndirectX zp => .indirectX zp
  | .bitZeroPage zp => .zeroPage zp
  | .andZeroPage zp => .zeroPage zp
  | .rolZeroPage zp => .zeroPage zp
  | .rlaZeroPage zp => .zeroPage zp
  | .andImmediate imm => .immediate imm
  | .ancImmediate2B imm => .immediate imm
  | .bitAbsolute addr => .absolute addr
  | .andAbsolute addr => .absolute addr
  | .rolAbsolute addr => .absolute addr
  | .rlaAbsolute addr => .absolute addr
  | .bmi off => .relative off
  | .andIndirectY zp => .indirectY zp
  | .rlaIndirectY zp => .indirectY zp
  | .nopZeroPageX34 zp => .zeroPageX zp
  | .andZeroPageX zp => .zeroPageX zp
  | .rolZeroPageX zp => .zeroPageX zp
  | .rlaZeroPageX zp => .zeroPageX zp
  | .andAbsoluteY addr => .absoluteY addr
  | .rlaAbsoluteY addr => .absoluteY addr
  | .nopAbsoluteX3C addr => .absoluteX addr
  | .andAbsoluteX addr => .absoluteX addr
  | .rolAbsoluteX addr => .absoluteX addr
  | .rlaAbsoluteX addr => .absoluteX addr
  | .eorIndirectX zp => .indirectX zp
  | .sreIndirectX zp => .indirectX zp
  | .nopZeroPage44 zp => .zeroPage zp
  | .eorZeroPage zp => .zeroPage zp
  | .lsrZeroPage zp => .zeroPage zp
  | .sreZeroPage zp => .zeroPage zp
  | .eorImmediate imm => .immediate imm
  | .alrImmediate imm => .immediate imm
  | .jmpAbsolute addr => .absolute addr
  | .eorAbsolute addr => .absolute addr
  | .lsrAbsolute addr => .absolute addr
  | .sreAbsolute addr => .absolute addr
  | .bvc off => .relative off
  | .eorIndirectY zp => .indirectY zp
  | .sreIndirectY zp => .indirectY zp
  | .nopZeroPageX54 zp => .zeroPageX zp
  | .eorZeroPageX zp => .zeroPageX zp
  | .lsrZeroPageX zp => .zeroPageX zp
  | .sreZeroPageX zp => .zeroPageX zp
  | .eorAbsoluteY addr => .absoluteY addr
  | .sreAbsoluteY addr => .absoluteY addr
  | .nopAbsoluteX5C addr => .absoluteX addr
  | .eorAbsoluteX addr => .absoluteX addr
  | .lsrAbsoluteX addr => .absoluteX addr
  | .sreAbsoluteX addr => .absoluteX addr
  | .adcIndirectX zp => .indirectX zp
  | .rraIndirectX zp => .indirectX zp
  | .nopZeroPage64 zp => .zeroPage zp
  | .adcZeroPage zp => .zeroPage zp
  | .rorZeroPage zp => .zeroPage zp
  | .rraZeroPage zp => .zeroPage zp
  | .adcImmediate imm => .immediate imm
  | .arrImmediate imm => .immediate imm
  | .jmpIndirect ptr => .indirect ptr
  | .adcAbsolute addr => .absolute addr
  | .rorAbsolute addr => .absolute addr
  | .rraAbsolute addr => .absolute addr
  | .bvs off => .relative off
  | .adcIndirectY zp => .indirectY zp
  | .rraIndirectY zp => .indirectY zp
  | .nopZeroPageX74 zp => .zeroPageX zp
  | .adcZeroPageX zp => .zeroPageX zp
  | .rorZeroPageX zp => .zeroPageX zp
  | .rraZeroPageX zp => .zeroPageX zp
  | .adcAbsoluteY addr => .absoluteY addr
  | .rraAbsoluteY addr => .absoluteY addr
  | .nopAbsoluteX7C addr => .absoluteX addr
  | .adcAbsoluteX addr => .absoluteX addr
  | .rorAbsoluteX addr => .absoluteX addr
  | .rraAbsoluteX addr => .absoluteX addr
  | .nopImmediate80 imm => .immediate imm
  | .staIndirectX zp => .indirectX zp
  | .nopImmediate82 imm => .immediate imm
  | .saxIndirectX zp => .indirectX zp
  | .styZeroPage zp => .zeroPage zp
  | .staZeroPage zp => .zeroPage zp
  | .stxZeroPage zp => .zeroPage zp
  | .saxZeroPage zp => .zeroPage zp
  | .nopImmediate89 imm => .immediate imm
  | .xaaImmediate imm => .immediate imm
  | .styAbsolute addr => .absolute addr
  | .staAbsolute addr => .absolute addr
  | .stxAbsolute addr => .absolute addr
  | .saxAbsolute addr => .absolute addr
  | .bcc off => .relative off
  | .staIndirectY zp => .indirectY zp
  | .shaIndirectY zp => .indirectY zp
  | .styZeroPageX zp => .zeroPageX zp
  | .staZeroPageX zp => .zeroPageX zp
  | .stxZeroPageY zp => .zeroPageY zp
  | .saxZeroPageY zp => .zeroPageY zp
  | .staAbsoluteY addr => .absoluteY addr
  | .tasAbsoluteY addr => .absoluteY addr
  | .shyAbsoluteX addr => .absoluteX addr
  | .staAbsoluteX addr => .absoluteX addr
  | .shxAbsoluteY addr => .absoluteY addr
  | .shaAbsoluteY addr => .absoluteY addr
  | .ldyImmediate imm => .immediate imm
  | .ldaIndirectX zp => .indirectX zp
  | .ldxImmediate imm => .immediate imm
  | .laxIndirectX zp => .indirectX zp
  | .ldyZeroPage zp => .zeroPage zp
  | .ldaZeroPage zp => .zeroPage zp
  | .ldxZeroPage zp => .zeroPage zp
  | .laxZeroPage zp => .zeroPage zp
  | .ldaImmediate imm => .immediate imm
  | .lxaImmediate imm => .immediate imm
  | .ldyAbsolute addr => .absolute addr
  | .ldaAbsolute addr => .absolute addr
  | .ldxAbsolute addr => .absolute addr
  | .laxAbsolute addr => .absolute addr
  | .bcs off => .relative off
  | .ldaIndirectY zp => .indirectY zp
  | .laxIndirectY zp => .indirectY zp
  | .ldyZeroPageX zp => .zeroPageX zp
  | .ldaZeroPageX zp => .zeroPageX zp
  | .ldxZeroPageY zp => .zeroPageY zp
  | .laxZeroPageY zp => .zeroPageY zp
  | .ldaAbsoluteY addr => .absoluteY addr
  | .lasAbsoluteY addr => .absoluteY addr
  | .ldyAbsoluteX addr => .absoluteX addr
  | .ldaAbsoluteX addr => .absoluteX addr
  | .ldxAbsoluteY addr => .absoluteY addr
  | .laxAbsoluteY addr => .absoluteY addr
  | .cpyImmediate imm => .immediate imm
  | .cmpIndirectX zp => .indirectX zp
  | .nopImmediateC2 imm => .immediate imm
  | .dcpIndirectX zp => .indirectX zp
  | .cpyZeroPage zp => .zeroPage zp
  | .cmpZeroPage zp => .zeroPage zp
  | .decZeroPage zp => .zeroPage zp
  | .dcpZeroPage zp => .zeroPage zp
  | .cmpImmediate imm => .immediate imm
  | .axsImmediate imm => .immediate imm
  | .cpyAbsolute addr => .absolute addr
  | .cmpAbsolute addr => .absolute addr
  | .decAbsolute addr => .absolute addr
  | .dcpAbsolute addr => .absolute addr
  | .bne off => .relative off
  | .cmpIndirectY zp => .indirectY zp
  | .dcpIndirectY zp => .indirectY zp
  | .nopZeroPageXD4 zp => .zeroPageX zp
  | .cmpZeroPageX zp => .zeroPageX zp
  | .decZeroPageX zp => .zeroPageX zp
  | .dcpZeroPageX zp => .zeroPageX zp
  | .cmpAbsoluteY addr => .absoluteY addr
  | .dcpAbsoluteY addr => .absoluteY addr
  | .nopAbsoluteXDC addr => .absoluteX addr
  | .cmpAbsoluteX addr => .absoluteX addr
  | .decAbsoluteX addr => .absoluteX addr
  | .dcpAbsoluteX addr => .absoluteX addr
  | .cpxImmediate imm => .immediate imm
  | .sbcIndirectX zp => .indirectX zp
  | .nopImmediateE2 imm => .immediate imm
  | .iscIndirectX zp => .indirectX zp
  | .cpxZeroPage zp => .zeroPage zp
  | .sbcZeroPage zp => .zeroPage zp
  | .incZeroPage zp => .zeroPage zp
  | .iscZeroPage zp => .zeroPage zp
  | .sbcImmediateE9 imm => .immediate imm
  | .sbcImmediateEB imm => .immediate imm
  | .cpxAbsolute addr => .absolute addr
  | .sbcAbsolute addr => .absolute addr
  | .incAbsolute addr => .absolute addr
  | .iscAbsolute addr => .absolute addr
  | .beq off => .relative off
  | .sbcIndirectY zp => .indirectY zp
  | .iscIndirectY zp => .indirectY zp
  | .nopZeroPageXF4 zp => .zeroPageX zp
  | .sbcZeroPageX zp => .zeroPageX zp
  | .incZeroPageX zp => .zeroPageX zp
  | .iscZeroPageX zp => .zeroPageX zp
  | .sbcAbsoluteY addr => .absoluteY addr
  | .iscAbsoluteY addr => .absoluteY addr
  | .nopAbsoluteXFC addr => .absoluteX addr
  | .sbcAbsoluteX addr => .absoluteX addr
  | .incAbsoluteX addr => .absoluteX addr
  | .iscAbsoluteX addr => .absoluteX addr
  | .brk => .implied
  | .kil02 => .implied
  | .php => .implied
  | .aslAccumulator => .accumulator
  | .kil12 => .implied
  | .clc => .implied
  | .nop1A => .implied
  | .kil22 => .implied
  | .plp => .implied
  | .rolAccumulator => .accumulator
  | .kil32 => .implied
  | .sec => .implied
  | .nop3A => .implied
  | .rti => .implied
  | .kil42 => .implied
  | .pha => .implied
  | .lsrAccumulator => .accumulator
  | .kil52 => .implied
  | .cli => .implied
  | .nop5A => .implied
  | .rts => .implied
  | .kil62 => .implied
  | .pla => .implied
  | .rorAccumulator => .accumulator
  | .kil72 => .implied
  | .sei => .implied
  | .nop7A => .implied
  | .dey => .implied
  | .txa => .implied
  | .kil92 => .implied
  | .tya => .implied
  | .txs => .implied
  | .tay => .implied
  | .tax => .implied
  | .kilB2 => .implied
  | .clv => .implied
  | .tsx => .implied
  | .iny => .implied
  | .dex => .implied
  | .kilD2 => .implied
  | .cld => .implied
  | .nopDA => .implied
  | .inx => .implied
  | .nopEA => .implied
  | .kilF2 => .implied
  | .sed => .implied
  | .nopFA => .implied

/-- The bytes of an instruction: the opcode byte, then the operand bytes (R80, R81). -/
def encode (i : Instr) : List Byte := i.opcode :: i.operand.bytes

/-- The length of an instruction, which its mode gives (R81, R82). -/
def Instr.length (i : Instr) : Nat := i.operand.mode.length

/-- Byte `k` of an instruction whose bits are `w`: bits `8 k + 7` down to `8 k`. -/
def wordByte (w k : Nat) : Byte := BitVec.ofNat 8 (w >>> (8 * k))

/-- The three bytes that hold an instruction of `nbits` bits `w`: every bit above `nbits` is 0, up to
the longest instruction. -/
def wordBytes (nbits w : Nat) : List Byte :=
  let v := w % 2 ^ nbits
  [wordByte v 0, wordByte v 1, wordByte v 2]

/-- The instruction the decoder reads from an instruction whose bits are `w`, numbered as the opcode
table numbers them. -/
def decodeTableWord (nbits w : Nat) : Option Instr :=
  match decode (wordBytes nbits w) with
  | .ok (i, _) => some i
  | .error _ => none

end Sys2Proof
end

