-- ==== Sys2Proof/Machine/Fetch.lean ====
section
/-! DEFINITION. Fetching an instruction's bytes through the bus and decoding them, and placing an
instruction where the next step fetches it. -/

namespace Sys2Proof.Machine

/-- The opcode byte at `PC` and the two bytes after it, each address with 16-bit wrap (R101, R107, D1).
A shorter instruction ignores the bytes past its length; reading them has no effect (R67). -/
def State.fetchBytes (s : State) : List Byte :=
  [s.readByte s.pc, s.readByte (s.pc + 1), s.readByte (s.pc + 2)]

/-- The instruction at `PC` (R101, R102). -/
def State.fetchInstr (s : State) : Except DecodeError Instr :=
  match decode s.fetchBytes with
  | .ok (i, _) => .ok i
  | .error e => .error e

/-- Stores a byte in the physical byte an address reaches, ROM included: the host's placing of a program
(R332, C2). Nothing where no physical byte stands. -/
def State.place (s : State) (a : Addr) (v : Byte) : State :=
  match backing s.prgSize a with
  | some key => { s with mem := Memory.write s.mem key v }
  | none => s

/-- Stores the bytes of a list at rising addresses, with 16-bit wrap. -/
def State.placeList (s : State) (a : Addr) : List Byte → State
  | [] => s
  | b :: rest => State.placeList (s.place a b) (a + 1) rest

/-- Whether three physical bytes stand at `a`, `a + 1` and `a + 2`, so that an instruction can be placed
there. -/
def hasRoom (size : PrgSize) (a : Addr) : Bool :=
  (backing size a).isSome && (backing size (a + 1)).isSome && (backing size (a + 2)).isSome

/-- Where withFetchWord places an instruction: at `PC`, or at 0x0000 in RAM where the PPU window or the
unmapped range leaves no physical byte at `PC` (log 9). -/
def fetchSpot (s : State) : Addr := if hasRoom s.prgSize s.pc then s.pc else 0x0000

end Sys2Proof.Machine
end

