-- ==== Sys2Proof/Machine/Step.lean ====
section
/-! DEFINITION. One step of the engine (R100 to R105). -/

namespace Sys2Proof.Machine

/-- One instruction: fetch, advance `PC` by 1, decode, execute, advance past the operand bytes (R100). No
step is taken before the first reset (R39), from Halted or from Faulted (R105). The observer of R106
changes nothing and is the host's (Machine/HostOps.lean). -/
def step (s : State) : Host.Outcome State Fault Refusal :=
  match s.resetDone, s.run with
  | false, _ => .refused .beforeReset
  | true, .halted reason => .refused (.engineHalted reason)
  | true, .faulted record => .refused (.engineFaulted record)
  | true, .running =>
    match s.fetchInstr with
    | .error _ => raiseUnknownOpcode (s.readByte s.pc) s
    | .ok i => Result.andThen (exec i (s.setPC (s.pc + 1))) (State.advance (s.pc + 1) i.length)

/-- The state whose next step runs exactly the instruction of `nbits` bits `w`: its bytes stand at `PC`,
and the engine runs after a reset (log 9). -/
def State.withFetchWord (s : State) (nbits w : Nat) : State :=
  { ((s.setPC (fetchSpot s)).placeList (fetchSpot s) (wordBytes nbits w)) with
    run := .running
    resetDone := true }

end Sys2Proof.Machine
end

