-- ==== Sys2Proof/Machine/HostOps.lean ====
section
/-! DEFINITION. The host's operations on the engine: new, load, reset, run (R330 to R336, R346). -/

namespace Sys2Proof.Machine

/-- RAM with the contents `init` at the first `n` offsets (R9). -/
def ramCells (init : Nat → Byte) : Nat → List Host.Cell
  | 0 => []
  | n + 1 => Memory.write (ramCells init n) n (init n)

/-- `new(bus)` (R331): an engine that owns a bus with the ROM image `prg` and RAM contents `ramInit`. The
registers are free values, the draws of a counter that starts at `seed`, and no reset has happened (R39,
log 5). The spec gives no run state there: the model's Running is its own choice (log 42), and no step or
run starts from it before a reset. An image of another size is refused (R8, D5). -/
def hostNew (prg : List Byte) (ramInit : Nat → Byte) (policy : UnstablePolicy) (seed : Nat) : Result :=
  match prgSizeOfLength prg.length with
  | none => .refused (.romSize prg.length)
  | some size =>
    .next (State.redrawRegs
      { State.reset with
        mem := Memory.writeList (ramCells ramInit 0x800) 0x8000 prg
        prgSize := size
        policy := policy
        resetDone := false
        draws := seed })

/-- A host operation that is refused once the engine is Faulted (D21, R346). -/
def unlessFaulted (s : State) (op : State → Result) : Result :=
  match s.run with
  | .faulted record => .refused (.engineFaulted record)
  | _ => op s

/-- The RAM cells of a memory. -/
def ramPart (m : List Host.Cell) : List Host.Cell := m.filter (fun c => decide (c.1 < 0x800))

/-- The memory `load` builds (R332, D24): RAM kept, a 32 KB image of 0x00 with the program from 0x8000 on,
then the reset vector 0x8000, written last. -/
def loadImage (m : List Host.Cell) (program : List Byte) : List Host.Cell :=
  Memory.write (Memory.write (Memory.writeList (ramPart m) 0x8000 program) 0xFFFC 0x00) 0xFFFD 0x80

/-- `load(program_bytes)` (R332). RAM, the registers and the run state are kept. -/
def hostLoad (program : List Byte) (s : State) : Result :=
  unlessFaulted s fun s =>
    if loadable program then .next { s with mem := loadImage s.mem program, prgSize := .bank32K }
    else .refused (.programTooLong program.length)

/-- The state `reset()` leaves (R330): RAM and ROM as they were. -/
def State.afterReset (s : State) : State :=
  { s with
    a := 0x00
    x := 0x00
    y := 0x00
    sp := Config.resetSP
    p := Config.resetP
    pc := s.readWord Config.resetVector
    run := .running
    resetDone := true }

/-- `reset()` (R330): allowed from Running and Halted, and before the first reset; refused from Faulted. -/
def hostReset (s : State) : Result := unlessFaulted s fun s => .next s.afterReset

/-- How a run of the model ends: the engine stopped (its run state says how), the step budget ran out with
the engine still Running (R345), or a step or the call was refused. `seen` is what the observer
saw, oldest first. -/
inductive RunEnd (α : Type) where
  | stopped (s : State) (seen : List α)
  | outOfBudget (s : State) (seen : List α)
  | refused (r : Refusal) (seen : List α)
  deriving DecidableEq, Repr

/-- Prefixes what the observer saw at one boundary. -/
def RunEnd.cons {α : Type} (v : α) : RunEnd α → RunEnd α
  | .stopped s seen => .stopped s (v :: seen)
  | .outOfBudget s seen => .outOfBudget s (v :: seen)
  | .refused r seen => .refused r (v :: seen)

/-- The loop of `run_with_callback` (R335) within a step budget: while Running, the observer sees the state
before the fetch (R106), then one step; a fault leaves the engine Faulted (R305). From Halted no
step is taken (D23). -/
def runLoop {α : Type} (obs : State → α) : Nat → State → RunEnd α
  | 0, s => if s.run = .running then .outOfBudget s [] else .stopped s []
  | n + 1, s =>
    if s.run = .running then
      match step s with
      | .next t => (runLoop obs n t).cons (obs s)
      | .fault f => .stopped (s.enterFaulted f) [obs s]
      | .refused r => .refused r [obs s]
    else .stopped s []

/-- `run_with_callback(obs)` (R335): refused before the first reset (D20) and after a fault (D21, log 8). -/
def hostRunWithCallback {α : Type} (obs : State → α) (budget : Nat) (s : State) : RunEnd α :=
  match s.resetDone, s.run with
  | false, _ => .refused .beforeReset []
  | true, .faulted record => .refused (.engineFaulted record) []
  | true, _ => runLoop obs budget s

/-- `run()` (R334): an observer that does nothing. -/
def hostRun (budget : Nat) (s : State) : RunEnd Unit := hostRunWithCallback (fun _ => ()) budget s

/-- `load_and_run(program_bytes)` (R333): load, reset, run. -/
def hostLoadAndRun (program : List Byte) (budget : Nat) (s : State) : RunEnd Unit :=
  match Result.seq (hostLoad program s) hostReset with
  | .next t => hostRun budget t
  | .fault f => .stopped (s.enterFaulted f) []
  | .refused r => .refused r []

end Sys2Proof.Machine
end

