-- ==== Sys2Proof/Safety.lean ====
section
/-! DEFINITION. What a good state and a safe run are. -/

namespace Sys2Proof.Machine

/-- The memory invariant: the canonical form, and every cell a physical byte (R35, R58, R59). -/
def State.memOk (s : State) : Bool :=
  Memory.wf s.mem && s.mem.all (fun c => validKey s.prgSize c.1)

/-- `t` holds the same ROM image as `s`, and the same parameters (R8, R10, R60). -/
def SameMachine (s t : State) : Prop :=
  t.prgSize = s.prgSize ∧ t.policy = s.policy ∧ t.resetDone = s.resetDone ∧
  ∀ a : Addr, inRom a = true → t.readByte a = s.readByte a

/-- `t` can be reached from `s` by steps. -/
inductive Reaches (s : State) : State → Prop where
  | refl : Reaches s s
  | step {t u : State} : Reaches s t → step t = .next u → Reaches s u

/-- `StepsThrough s bs t`: the engine runs from `s` to `t`, one step from each of the states `bs` in order. -/
inductive StepsThrough : State → List State → State → Prop where
  | nil (s : State) : StepsThrough s [] s
  | cons {s t u : State} {bs : List State} :
      s.run = .running → step s = .next t → StepsThrough t bs u → StepsThrough s (s :: bs) u

/-- No step from `s` on faults: the program never writes cartridge ROM. -/
def FaultFree (s : State) : Prop := ∀ t, Reaches s t → ∀ f, step t ≠ .fault f

/-- No step from `s` on is refused while the engine runs. -/
def RefusalFree (s : State) : Prop := ∀ t, Reaches s t → t.run = .running → ∀ r, step t ≠ .refused r

end Sys2Proof.Machine
end

