-- ==== Sys2Proof/Certificates/Slice0/Obligations.lean ====
section
/-! DEFINITION. The statements for the provers. Every per-instruction statement is about `exec`, which runs
with `PC = snap` (R101, R103); the statements about `step` say what the step adds around it. -/

namespace Sys2Proof.Machine

/-! ### Words of the statements -/

/-- The registers a frame names; `P` is named flag by flag. -/
inductive Reg where
  | A | X | Y | SP | PC
  deriving DecidableEq, Repr

/-- Everything but memory is the same in `t` as in `s`, except the registers and flags named. -/
def Unchanged (regs : List Reg) (flags : List Flag) (s t : State) : Prop :=
  (Reg.A ∉ regs → t.a = s.a) ∧ (Reg.X ∉ regs → t.x = s.x) ∧ (Reg.Y ∉ regs → t.y = s.y) ∧
  (Reg.SP ∉ regs → t.sp = s.sp) ∧ (Reg.PC ∉ regs → t.pc = s.pc) ∧
  (∀ f, f ∉ flags → t.flag f = s.flag f) ∧
  t.run = s.run ∧ t.prgSize = s.prgSize ∧ t.policy = s.policy ∧ t.resetDone = s.resetDone ∧
  t.draws = s.draws

/-- Every address reads in `t` as it reads in `s`. -/
def SameMemory (s t : State) : Prop := ∀ a : Addr, t.readByte a = s.readByte a

/-- `v` is stored at `ea`: where `ea` lies in the RAM window, every address that reaches the same RAM byte
reads `v`; every other address reads as before (R54, R58). -/
def StoredAt (ea : Addr) (v : Byte) (s t : State) : Prop :=
  ∀ a : Addr, t.readByte a =
    if ea.toNat < 0x2000 ∧ a.toNat < 0x2000 ∧ a.toNat % 0x800 = ea.toNat % 0x800 then v
    else s.readByte a

/-- Z and N are those of the byte `v` (R122). -/
def ZNOf (v : Byte) (t : State) : Prop :=
  t.flag .Z = decide (v = 0) ∧ t.flag .N = decide (0x80 ≤ v.toNat)

/-- `i` completes in a state `t` with `P t`, no memory changed. -/
def Completes (i : Instr) (s : State) (P : State → Prop) : Prop :=
  ∃ t, exec i s = .next t ∧ SameMemory s t ∧ P t

/-- `i` writes `v` to its memory operand and completes in a state `t` with `P t`, or, where the operand
lies in ROM, stops with the fault `RomWrite` and its record (R60, R302). Which program counter the record
holds is the spec's decision D22 (log 34). -/
def WritesOperand (i : Instr) (s : State) (v : Byte) (P : State → Prop) : Prop :=
  ∀ ea, resolve i.operand s = some ea →
    (ea.toNat < 0x8000 → ∃ t, exec i s = .next t ∧ StoredAt ea v s t ∧ P t) ∧
    (0x8000 ≤ ea.toNat → exec i s = .fault (.romWrite i.opcode (s.pc - 1) ea))

/-- The effect of the add path on `A` and the flags (R123): the 9-bit sum of `A`, `m` and the carry. -/
def AddEffect (m : Byte) (c : Bool) (s t : State) : Prop :=
  t.a.toNat = (s.a.toNat + m.toNat + c.toNat) % 256 ∧
  t.flag .C = decide (256 ≤ s.a.toNat + m.toNat + c.toNat) ∧
  t.flag .V = decide ((m ^^^ t.a) &&& (s.a ^^^ t.a) &&& 0x80 ≠ 0) ∧ ZNOf t.a t

/-- The effect of the compare path on the flags (R124). -/
def CompareEffect (r m : Byte) (t : State) : Prop :=
  t.flag .C = decide (m.toNat ≤ r.toNat) ∧ t.flag .Z = decide (r = m) ∧
  t.flag .N = decide (0x80 ≤ (r - m).toNat)

/-- `i` stands at `PC` of a running engine. -/
def Fetches (i : Instr) (s : State) : Prop :=
  s.resetDone = true ∧ s.run = .running ∧ s.fetchInstr = .ok i

/-- The byte and its carry out of a shift or rotate by one bit, in numbers (R129). -/
def asl1 (v : Byte) : Byte × Bool := (BitVec.ofNat 8 (2 * v.toNat), decide (128 ≤ v.toNat))
/-- As `asl1`, to the right. -/
def lsr1 (v : Byte) : Byte × Bool := (BitVec.ofNat 8 (v.toNat / 2), decide (v.toNat % 2 = 1))
/-- As `asl1`, with the old carry in bit 0. -/
def rol1 (v : Byte) (c : Bool) : Byte × Bool :=
  (BitVec.ofNat 8 (2 * v.toNat + c.toNat), decide (128 ≤ v.toNat))
/-- As `lsr1`, with the old carry in bit 7. -/
def ror1 (v : Byte) (c : Bool) : Byte × Bool :=
  (BitVec.ofNat 8 (v.toNat / 2 + 128 * c.toNat), decide (v.toNat % 2 = 1))

/-- The opcode bytes of the control-transfer instructions of R130. -/
def controlTransfers : List Byte :=
  [0x10, 0x30, 0x50, 0x70, 0x90, 0xB0, 0xD0, 0xF0, 0x4C, 0x6C, 0x20, 0x60, 0x40]

/-- The opcode bytes of the instructions that write memory at an effective address (R302). -/
def writesMemory : List Byte :=
  [0x85, 0x95, 0x8D, 0x9D, 0x99, 0x81, 0x91, 0x86, 0x96, 0x8E, 0x84, 0x94, 0x8C,
   0x06, 0x16, 0x0E, 0x1E, 0x46, 0x56, 0x4E, 0x5E, 0x26, 0x36, 0x2E, 0x3E, 0x66, 0x76, 0x6E, 0x7E,
   0xE6, 0xF6, 0xEE, 0xFE, 0xC6, 0xD6, 0xCE, 0xDE,
   0x87, 0x97, 0x8F, 0x83,
   0xC7, 0xD7, 0xCF, 0xDF, 0xDB, 0xC3, 0xD3, 0xE7, 0xF7, 0xEF, 0xFF, 0xFB, 0xE3, 0xF3,
   0x07, 0x17, 0x0F, 0x1F, 0x1B, 0x03, 0x13, 0x27, 0x37, 0x2F, 0x3F, 0x3B, 0x23, 0x33,
   0x47, 0x57, 0x4F, 0x5F, 0x5B, 0x43, 0x53, 0x67, 0x77, 0x6F, 0x7F, 0x7B, 0x63, 0x73,
   0x9B, 0x9F, 0x93, 0x9E, 0x9C]

/-- Two states agree on everything but the flag `f`. -/
def AgreeBut (f : Flag) (s t : State) : Prop :=
  t.a = s.a ∧ t.x = s.x ∧ t.y = s.y ∧ t.sp = s.sp ∧ t.pc = s.pc ∧ t.run = s.run ∧ t.mem = s.mem ∧
  t.prgSize = s.prgSize ∧ t.policy = s.policy ∧ t.resetDone = s.resetDone ∧ t.draws = s.draws ∧
  ∀ g, g ≠ f → t.flag g = s.flag g

/-! ### The forms of each instruction (R88): `b` is a byte operand, `w` a word operand -/


/-- LDA (R140). -/
def formsLDA (b : Byte) (w : Addr) : List Instr :=
  [Instr.ldaIndirectX b, .ldaZeroPage b, .ldaImmediate b, .ldaAbsolute w, .ldaIndirectY b,
   .ldaZeroPageX b, .ldaAbsoluteY w, .ldaAbsoluteX w]

/-- LDX (R141). -/
def formsLDX (b : Byte) (w : Addr) : List Instr :=
  [Instr.ldxImmediate b, .ldxZeroPage b, .ldxAbsolute w, .ldxZeroPageY b, .ldxAbsoluteY w]

/-- LDY (R142). -/
def formsLDY (b : Byte) (w : Addr) : List Instr :=
  [Instr.ldyImmediate b, .ldyZeroPage b, .ldyAbsolute w, .ldyZeroPageX b, .ldyAbsoluteX w]

/-- STA (R143). -/
def formsSTA (b : Byte) (w : Addr) : List Instr :=
  [Instr.staIndirectX b, .staZeroPage b, .staAbsolute w, .staIndirectY b, .staZeroPageX b,
   .staAbsoluteY w, .staAbsoluteX w]

/-- STX (R144). -/
def formsSTX (b : Byte) (w : Addr) : List Instr :=
  [Instr.stxZeroPage b, .stxAbsolute w, .stxZeroPageY b]

/-- STY (R145). -/
def formsSTY (b : Byte) (w : Addr) : List Instr :=
  [Instr.styZeroPage b, .styAbsolute w, .styZeroPageX b]

/-- ADC (R170). -/
def formsADC (b : Byte) (w : Addr) : List Instr :=
  [Instr.adcIndirectX b, .adcZeroPage b, .adcImmediate b, .adcAbsolute w, .adcIndirectY b,
   .adcZeroPageX b, .adcAbsoluteY w, .adcAbsoluteX w]

/-- SBC (R171), but for the undocumented alias 0xEB. -/
def formsSBC (b : Byte) (w : Addr) : List Instr :=
  [Instr.sbcIndirectX b, .sbcZeroPage b, .sbcImmediateE9 b, .sbcAbsolute w, .sbcIndirectY b,
   .sbcZeroPageX b, .sbcAbsoluteY w, .sbcAbsoluteX w]

/-- AND (R172). -/
def formsAND (b : Byte) (w : Addr) : List Instr :=
  [Instr.andIndirectX b, .andZeroPage b, .andImmediate b, .andAbsolute w, .andIndirectY b,
   .andZeroPageX b, .andAbsoluteY w, .andAbsoluteX w]

/-- ORA (R173). -/
def formsORA (b : Byte) (w : Addr) : List Instr :=
  [Instr.oraIndirectX b, .oraZeroPage b, .oraImmediate b, .oraAbsolute w, .oraIndirectY b,
   .oraZeroPageX b, .oraAbsoluteY w, .oraAbsoluteX w]

/-- EOR (R174). -/
def formsEOR (b : Byte) (w : Addr) : List Instr :=
  [Instr.eorIndirectX b, .eorZeroPage b, .eorImmediate b, .eorAbsolute w, .eorIndirectY b,
   .eorZeroPageX b, .eorAbsoluteY w, .eorAbsoluteX w]

/-- ASL (R175), the memory forms. -/
def formsASL (b : Byte) (w : Addr) : List Instr :=
  [Instr.aslZeroPage b, .aslAbsolute w, .aslZeroPageX b, .aslAbsoluteX w]

/-- LSR (R176), the memory forms. -/
def formsLSR (b : Byte) (w : Addr) : List Instr :=
  [Instr.lsrZeroPage b, .lsrAbsolute w, .lsrZeroPageX b, .lsrAbsoluteX w]

/-- ROL (R177), the memory forms. -/
def formsROL (b : Byte) (w : Addr) : List Instr :=
  [Instr.rolZeroPage b, .rolAbsolute w, .rolZeroPageX b, .rolAbsoluteX w]

/-- ROR (R178), the memory forms. -/
def formsROR (b : Byte) (w : Addr) : List Instr :=
  [Instr.rorZeroPage b, .rorAbsolute w, .rorZeroPageX b, .rorAbsoluteX w]

/-- INC (R179). -/
def formsINC (b : Byte) (w : Addr) : List Instr :=
  [Instr.incZeroPage b, .incAbsolute w, .incZeroPageX b, .incAbsoluteX w]

/-- DEC (R180). -/
def formsDEC (b : Byte) (w : Addr) : List Instr :=
  [Instr.decZeroPage b, .decAbsolute w, .decZeroPageX b, .decAbsoluteX w]

/-- CMP (R185). -/
def formsCMP (b : Byte) (w : Addr) : List Instr :=
  [Instr.cmpIndirectX b, .cmpZeroPage b, .cmpImmediate b, .cmpAbsolute w, .cmpIndirectY b,
   .cmpZeroPageX b, .cmpAbsoluteY w, .cmpAbsoluteX w]

/-- CPX (R186). -/
def formsCPX (b : Byte) (w : Addr) : List Instr :=
  [Instr.cpxImmediate b, .cpxZeroPage b, .cpxAbsolute w]

/-- CPY (R187). -/
def formsCPY (b : Byte) (w : Addr) : List Instr :=
  [Instr.cpyImmediate b, .cpyZeroPage b, .cpyAbsolute w]

/-- BIT (R188). -/
def formsBIT (b : Byte) (w : Addr) : List Instr :=
  [Instr.bitZeroPage b, .bitAbsolute w]

/-- LAX (R261). -/
def formsLAX (b : Byte) (w : Addr) : List Instr :=
  [Instr.laxIndirectX b, .laxZeroPage b, .laxAbsolute w, .laxIndirectY b, .laxZeroPageY b,
   .laxAbsoluteY w]

/-- LAS (R275). -/
def formsLAS (_b : Byte) (w : Addr) : List Instr :=
  [Instr.lasAbsoluteY w]

/-- SAX (R262). -/
def formsSAX (b : Byte) (w : Addr) : List Instr :=
  [Instr.saxIndirectX b, .saxZeroPage b, .saxAbsolute w, .saxZeroPageY b]

/-- DCP (R263). -/
def formsDCP (b : Byte) (w : Addr) : List Instr :=
  [Instr.dcpIndirectX b, .dcpZeroPage b, .dcpAbsolute w, .dcpIndirectY b, .dcpZeroPageX b,
   .dcpAbsoluteY w, .dcpAbsoluteX w]

/-- ISC (R264). -/
def formsISC (b : Byte) (w : Addr) : List Instr :=
  [Instr.iscIndirectX b, .iscZeroPage b, .iscAbsolute w, .iscIndirectY b, .iscZeroPageX b,
   .iscAbsoluteY w, .iscAbsoluteX w]

/-- SLO (R265). -/
def formsSLO (b : Byte) (w : Addr) : List Instr :=
  [Instr.sloIndirectX b, .sloZeroPage b, .sloAbsolute w, .sloIndirectY b, .sloZeroPageX b,
   .sloAbsoluteY w, .sloAbsoluteX w]

/-- RLA (R266). -/
def formsRLA (b : Byte) (w : Addr) : List Instr :=
  [Instr.rlaIndirectX b, .rlaZeroPage b, .rlaAbsolute w, .rlaIndirectY b, .rlaZeroPageX b,
   .rlaAbsoluteY w, .rlaAbsoluteX w]

/-- SRE (R267). -/
def formsSRE (b : Byte) (w : Addr) : List Instr :=
  [Instr.sreIndirectX b, .sreZeroPage b, .sreAbsolute w, .sreIndirectY b, .sreZeroPageX b,
   .sreAbsoluteY w, .sreAbsoluteX w]

/-- RRA (R268). -/
def formsRRA (b : Byte) (w : Addr) : List Instr :=
  [Instr.rraIndirectX b, .rraZeroPage b, .rraAbsolute w, .rraIndirectY b, .rraZeroPageX b,
   .rraAbsoluteY w, .rraAbsoluteX w]

/-- NOP (R235, R281, R282). -/
def formsNOP (b : Byte) (w : Addr) : List Instr :=
  [Instr.nopZeroPage04 b, .nopAbsolute w, .nopZeroPageX14 b, .nop1A, .nopAbsoluteX1C w,
   .nopZeroPageX34 b, .nop3A, .nopAbsoluteX3C w, .nopZeroPage44 b, .nopZeroPageX54 b, .nop5A,
   .nopAbsoluteX5C w, .nopZeroPage64 b, .nopZeroPageX74 b, .nop7A, .nopAbsoluteX7C w,
   .nopImmediate80 b, .nopImmediate82 b, .nopImmediate89 b, .nopImmediateC2 b, .nopZeroPageXD4 b,
   .nopDA, .nopAbsoluteXDC w, .nopImmediateE2 b, .nopEA, .nopZeroPageXF4 b, .nopFA,
   .nopAbsoluteXFC w]

/-- KIL (R283). -/
def formsKIL : List Instr :=
  [Instr.kil02, .kil12, .kil22, .kil32, .kil42, .kil52, .kil62, .kil72, .kil92, .kilB2, .kilD2,
   .kilF2]

end Sys2Proof.Machine

open Sys2Proof Sys2Proof.Machine

/-! ### Loads, stores, transfers -/

/-- R140, R141, R142: LDA, LDX and LDY put the operand in the register, set Z and N from it, and change
nothing else, in every form. -/
def Obligations.LoadsReadOperandIntoRegister : Prop :=
  ∀ (b : Byte) (w : Addr) (s : State),
    (∀ i ∈ formsLDA b w, Completes i s fun t =>
      t.a = readOperand i.operand s ∧ ZNOf t.a t ∧ Unchanged [.A] [.Z, .N] s t) ∧
    (∀ i ∈ formsLDX b w, Completes i s fun t =>
      t.x = readOperand i.operand s ∧ ZNOf t.x t ∧ Unchanged [.X] [.Z, .N] s t) ∧
    (∀ i ∈ formsLDY b w, Completes i s fun t =>
      t.y = readOperand i.operand s ∧ ZNOf t.y t ∧ Unchanged [.Y] [.Z, .N] s t)

/-- R143, R144, R145: STA, STX and STY store the register at the resolved address and change nothing
else; a ROM address faults. -/
def Obligations.StoresWriteRegisterToOperand : Prop :=
  ∀ (b : Byte) (w : Addr) (s : State), Memory.wf s.mem = true →
    (∀ i ∈ formsSTA b w, WritesOperand i s s.a (Unchanged [] [] s)) ∧
    (∀ i ∈ formsSTX b w, WritesOperand i s s.x (Unchanged [] [] s)) ∧
    (∀ i ∈ formsSTY b w, WritesOperand i s s.y (Unchanged [] [] s))

/-- R146 to R151: each transfer copies one register; all but TXS set Z and N. -/
def Obligations.TransfersCopyOneRegister : Prop :=
  ∀ s : State,
    Completes .tax s (fun t => t.x = s.a ∧ ZNOf t.x t ∧ Unchanged [.X] [.Z, .N] s t) ∧
    Completes .tay s (fun t => t.y = s.a ∧ ZNOf t.y t ∧ Unchanged [.Y] [.Z, .N] s t) ∧
    Completes .txa s (fun t => t.a = s.x ∧ ZNOf t.a t ∧ Unchanged [.A] [.Z, .N] s t) ∧
    Completes .tya s (fun t => t.a = s.y ∧ ZNOf t.a t ∧ Unchanged [.A] [.Z, .N] s t) ∧
    Completes .tsx s (fun t => t.x = s.sp ∧ ZNOf t.x t ∧ Unchanged [.X] [.Z, .N] s t) ∧
    Completes .txs s (fun t => t.sp = s.x ∧ Unchanged [.SP] [] s t)

/-! ### Arithmetic and logic -/

/-- R170: ADC runs the add path on the operand in every form; P.D is not read. -/
def Obligations.AdcAddsWithCarry : Prop :=
  ∀ (b : Byte) (w : Addr) (s : State), ∀ i ∈ formsADC b w, Completes i s fun t =>
    AddEffect (readOperand i.operand s) (s.flag .C) s t ∧ Unchanged [.A] [.C, .Z, .V, .N] s t

/-- R171: SBC runs the add path on the complemented operand in every documented form; C is "no borrow". -/
def Obligations.SbcSubtractsWithBorrow : Prop :=
  ∀ (b : Byte) (w : Addr) (s : State), ∀ i ∈ formsSBC b w, Completes i s fun t =>
    AddEffect (~~~readOperand i.operand s) (s.flag .C) s t ∧
    t.flag .C = decide ((readOperand i.operand s).toNat + (1 - (s.flag .C).toNat) ≤ s.a.toNat) ∧
    Unchanged [.A] [.C, .Z, .V, .N] s t

/-- The add path in numbers, from R191 and R192 (inferences the spec marks as derived): V says that the
signed sum, or for SBC the signed difference, leaves -128..127. -/
def Obligations.OverflowIsSignedOverflow : Prop :=
  ∀ (a m : Byte) (c : Bool),
    addOverflow a m c =
      decide (¬(-128 ≤ a.toInt + m.toInt + c.toNat ∧ a.toInt + m.toInt + c.toNat ≤ 127)) ∧
    addOverflow a (~~~m) c =
      decide (¬(-128 ≤ a.toInt - m.toInt - (1 - c.toNat) ∧ a.toInt - m.toInt - (1 - c.toNat) ≤ 127))

/-- The add and subtract round trip of R194 (derived, C3), through the instructions: ADC of `b` with carry
`c`, then SBC of `b` with carry `1 - c`, gives `A` back. -/
def Obligations.AdcThenSbcRestoresA : Prop :=
  ∀ (b : Byte) (s t : State), exec (.adcImmediate b) s = .next t →
    ∃ u, exec (.sbcImmediateE9 b) (t.setFlag .C (!s.flag .C)) = .next u ∧ u.a = s.a

/-- R172, R173, R174: AND, ORA and EOR combine A with the operand and set Z and N, in every form. -/
def Obligations.LogicalOpsCombineWithA : Prop :=
  ∀ (b : Byte) (w : Addr) (s : State),
    (∀ i ∈ formsAND b w, Completes i s fun t =>
      t.a = s.a &&& readOperand i.operand s ∧ ZNOf t.a t ∧ Unchanged [.A] [.Z, .N] s t) ∧
    (∀ i ∈ formsORA b w, Completes i s fun t =>
      t.a = s.a ||| readOperand i.operand s ∧ ZNOf t.a t ∧ Unchanged [.A] [.Z, .N] s t) ∧
    (∀ i ∈ formsEOR b w, Completes i s fun t =>
      t.a = s.a ^^^ readOperand i.operand s ∧ ZNOf t.a t ∧ Unchanged [.A] [.Z, .N] s t)

/-- R175 to R178: each shift and rotate by one bit, of A or of the byte at the operand's address: the
result goes back where it came from, the bit shifted out to C, Z and N come from the result; a ROM
address faults. -/
def Obligations.ShiftsMoveOneBit : Prop :=
  ∀ (b : Byte) (w : Addr) (s : State), Memory.wf s.mem = true →
    Completes .aslAccumulator s (fun t => t.a = (asl1 s.a).1 ∧ t.flag .C = (asl1 s.a).2 ∧
      ZNOf t.a t ∧ Unchanged [.A] [.C, .Z, .N] s t) ∧
    Completes .lsrAccumulator s (fun t => t.a = (lsr1 s.a).1 ∧ t.flag .C = (lsr1 s.a).2 ∧
      ZNOf t.a t ∧ Unchanged [.A] [.C, .Z, .N] s t) ∧
    Completes .rolAccumulator s (fun t => t.a = (rol1 s.a (s.flag .C)).1 ∧
      t.flag .C = (rol1 s.a (s.flag .C)).2 ∧ ZNOf t.a t ∧ Unchanged [.A] [.C, .Z, .N] s t) ∧
    Completes .rorAccumulator s (fun t => t.a = (ror1 s.a (s.flag .C)).1 ∧
      t.flag .C = (ror1 s.a (s.flag .C)).2 ∧ ZNOf t.a t ∧ Unchanged [.A] [.C, .Z, .N] s t) ∧
    (∀ i ∈ formsASL b w, WritesOperand i s (asl1 (readOperand i.operand s)).1 fun t =>
      t.flag .C = (asl1 (readOperand i.operand s)).2 ∧ ZNOf (asl1 (readOperand i.operand s)).1 t ∧
      Unchanged [] [.C, .Z, .N] s t) ∧
    (∀ i ∈ formsLSR b w, WritesOperand i s (lsr1 (readOperand i.operand s)).1 fun t =>
      t.flag .C = (lsr1 (readOperand i.operand s)).2 ∧ ZNOf (lsr1 (readOperand i.operand s)).1 t ∧
      Unchanged [] [.C, .Z, .N] s t) ∧
    (∀ i ∈ formsROL b w, WritesOperand i s (rol1 (readOperand i.operand s) (s.flag .C)).1 fun t =>
      t.flag .C = (rol1 (readOperand i.operand s) (s.flag .C)).2 ∧
      ZNOf (rol1 (readOperand i.operand s) (s.flag .C)).1 t ∧ Unchanged [] [.C, .Z, .N] s t) ∧
    (∀ i ∈ formsROR b w, WritesOperand i s (ror1 (readOperand i.operand s) (s.flag .C)).1 fun t =>
      t.flag .C = (ror1 (readOperand i.operand s) (s.flag .C)).2 ∧
      ZNOf (ror1 (readOperand i.operand s) (s.flag .C)).1 t ∧ Unchanged [] [.C, .Z, .N] s t)

/-- R179 to R184: INC, DEC, INX, INY, DEX and DEY change a byte of memory or an index register by one, mod
256, and set Z and N; a ROM address faults. -/
def Obligations.IncrementsAndDecrementsWrap : Prop :=
  ∀ (b : Byte) (w : Addr) (s : State), Memory.wf s.mem = true →
    (∀ i ∈ formsINC b w,
      WritesOperand i s (BitVec.ofNat 8 ((readOperand i.operand s).toNat + 1)) fun t =>
        ZNOf (BitVec.ofNat 8 ((readOperand i.operand s).toNat + 1)) t ∧ Unchanged [] [.Z, .N] s t) ∧
    (∀ i ∈ formsDEC b w,
      WritesOperand i s (BitVec.ofNat 8 ((readOperand i.operand s).toNat + 255)) fun t =>
        ZNOf (BitVec.ofNat 8 ((readOperand i.operand s).toNat + 255)) t ∧ Unchanged [] [.Z, .N] s t) ∧
    Completes .inx s (fun t => t.x.toNat = (s.x.toNat + 1) % 256 ∧ ZNOf t.x t ∧
      Unchanged [.X] [.Z, .N] s t) ∧
    Completes .iny s (fun t => t.y.toNat = (s.y.toNat + 1) % 256 ∧ ZNOf t.y t ∧
      Unchanged [.Y] [.Z, .N] s t) ∧
    Completes .dex s (fun t => t.x.toNat = (s.x.toNat + 255) % 256 ∧ ZNOf t.x t ∧
      Unchanged [.X] [.Z, .N] s t) ∧
    Completes .dey s (fun t => t.y.toNat = (s.y.toNat + 255) % 256 ∧ ZNOf t.y t ∧
      Unchanged [.Y] [.Z, .N] s t)

/-- R185, R186, R187: CMP, CPX and CPY set C, Z and N from the unsigned comparison and change nothing
else, in every form. -/
def Obligations.ComparesSetFlagsOnly : Prop :=
  ∀ (b : Byte) (w : Addr) (s : State),
    (∀ i ∈ formsCMP b w, Completes i s fun t =>
      CompareEffect s.a (readOperand i.operand s) t ∧ Unchanged [] [.C, .Z, .N] s t) ∧
    (∀ i ∈ formsCPX b w, Completes i s fun t =>
      CompareEffect s.x (readOperand i.operand s) t ∧ Unchanged [] [.C, .Z, .N] s t) ∧
    (∀ i ∈ formsCPY b w, Completes i s fun t =>
      CompareEffect s.y (readOperand i.operand s) t ∧ Unchanged [] [.C, .Z, .N] s t)

/-- R188: BIT sets Z from A AND the operand, and N and V from bits 7 and 6 of the operand. -/
def Obligations.BitTestsOperandBits : Prop :=
  ∀ (b : Byte) (w : Addr) (s : State), ∀ i ∈ formsBIT b w, Completes i s fun t =>
    t.flag .Z = decide (s.a &&& readOperand i.operand s = 0) ∧
    t.flag .N = decide (128 ≤ (readOperand i.operand s).toNat) ∧
    t.flag .V = decide (64 ≤ (readOperand i.operand s).toNat % 128) ∧
    Unchanged [] [.Z, .V, .N] s t

/-! ### Control, stack, flags -/

/-- R211 to R218 (with R210): each branch puts `snap + 1` plus the signed offset in PC exactly when its
flag has its value, and changes nothing else. -/
def Obligations.BranchesTestOneFlag : Prop :=
  ∀ (off : Byte) (s : State),
    ∀ c ∈ [(Instr.bcc off, Flag.C, false), (.bcs off, .C, true), (.beq off, .Z, true),
      (.bne off, .Z, false), (.bpl off, .N, false), (.bmi off, .N, true), (.bvc off, .V, false),
      (.bvs off, .V, true)],
    Completes c.1 s fun t =>
      t.pc = (if s.flag c.2.1 = c.2.2 then BitVec.ofInt 16 (s.pc.toNat + 1 + off.toInt) else s.pc) ∧
      Unchanged [.PC] [] s t

/-- R210, with the special case of R339: a step of a fetched branch ends at the target, or at the next
instruction where it is not taken; offset 0xFF ends at the next instruction either way. -/
def Obligations.BranchStepEndsAtTargetOrNext : Prop :=
  ∀ (off : Byte) (s : State),
    ∀ c ∈ [(Instr.bcc off, Flag.C, false), (.bcs off, .C, true), (.beq off, .Z, true),
      (.bne off, .Z, false), (.bpl off, .N, false), (.bmi off, .N, true), (.bvc off, .V, false),
      (.bvs off, .V, true)],
    Fetches c.1 s →
      step s = .next (s.setPC
        (if s.flag c.2.1 = c.2.2 ∧ off ≠ 0xFF then BitVec.ofInt 16 (s.pc.toNat + 2 + off.toInt)
         else s.pc + 2))

/-- R219, R220: JMP puts its target in PC and changes nothing else. The target of JMP indirect is the word
at the pointer, except that a pointer at the end of a page takes its high byte from the start of
that page. A step of a fetched JMP ends at its target, but for a target equal to `snap`, which goes on
after the instruction. -/
def Obligations.JumpsSetPC : Prop :=
  ∀ (w : Addr) (s : State),
    Completes (.jmpAbsolute w) s (fun t => t.pc = w ∧ Unchanged [.PC] [] s t) ∧
    Completes (.jmpIndirect w) s (fun t =>
      t.pc.toNat = (s.readByte w).toNat +
        256 * (s.readByte (if w.toNat % 256 = 255 then w - 255 else w + 1)).toNat ∧
      Unchanged [.PC] [] s t) ∧
    (Fetches (.jmpAbsolute w) s →
      step s = .next (s.setPC (if w = s.pc + 1 then s.pc + 3 else w))) ∧
    (Fetches (.jmpIndirect w) s → ∀ target, resolve (.indirect w) s = some target →
      step s = .next (s.setPC (if target = s.pc + 1 then s.pc + 3 else target)))

/-- R339, row by row: a transfer to `snap` goes on as if the operand bytes were skipped, for a taken branch
at `snap + 1`, for JMP and JSR at `snap + 2` with the return address pushed; any other target is where
the step ends. For RTS and RTI, of length 1, `snap` makes no difference. -/
def Obligations.TransferToSnapFallsThrough : Prop :=
  ∀ (w : Addr) (s : State),
    (∀ c ∈ [(Instr.bcc 0xFF, Flag.C, false), (.bcs 0xFF, .C, true), (.beq 0xFF, .Z, true),
        (.bne 0xFF, .Z, false), (.bpl 0xFF, .N, false), (.bmi 0xFF, .N, true), (.bvc 0xFF, .V, false),
        (.bvs 0xFF, .V, true)],
      Fetches c.1 s → s.flag c.2.1 = c.2.2 → ∃ t, step s = .next t ∧ t.pc = s.pc + 2) ∧
    (Fetches (.jmpAbsolute w) s → ∃ t, step s = .next t ∧
      t.pc = if w = s.pc + 1 then s.pc + 3 else w) ∧
    (Fetches (.jmpIndirect w) s → ∀ target, resolve (.indirect w) s = some target →
      ∃ t, step s = .next t ∧ t.pc = if target = s.pc + 1 then s.pc + 3 else target) ∧
    (Fetches (.jsrAbsolute w) s →
      step s = .next ((s.push16 (s.pc + 2)).setPC (if w = s.pc + 1 then s.pc + 3 else w))) ∧
    (Fetches .rts s → ∃ t, step s = .next t ∧ t.pc = s.pullWord + 1) ∧
    (Fetches .rti s → ∃ t, step s = .next t ∧ t.pc = s.pulled.pullWord)

/-- JSR pushes the address of its last byte, high byte first, and jumps (R221); that a push writes before
it decrements and wraps in page 1 is the spec's own decision D8 (log 20). -/
def Obligations.JsrPushesReturnAddress : Prop :=
  ∀ (w : Addr) (s : State), Memory.wf s.mem = true → ∃ t, exec (.jsrAbsolute w) s = .next t ∧
    t.pc = w ∧ t.sp = s.sp - 2 ∧
    t.readByte (0x0100 + s.sp.setWidth 16) = BitVec.ofNat 8 ((s.pc + 1).toNat / 256) ∧
    t.readByte (0x0100 + (s.sp - 1).setWidth 16) = BitVec.ofNat 8 ((s.pc + 1).toNat % 256) ∧
    (∀ a : Addr, (a.toNat < 0x2000 → a.toNat % 0x800 ≠ 0x100 + s.sp.toNat ∧
      a.toNat % 0x800 ≠ 0x100 + (s.sp - 1).toNat) → t.readByte a = s.readByte a) ∧
    Unchanged [.SP, .PC] [] s t

/-- RTS pulls the low byte, then the high byte, and adds 1 (R222); the pull order is D8 (log 20). -/
def Obligations.RtsReturnsPastPulledWord : Prop :=
  ∀ s : State, Completes .rts s fun t =>
    t.pc.toNat = ((s.readByte (0x0100 + (s.sp + 1).setWidth 16)).toNat +
      256 * (s.readByte (0x0100 + (s.sp + 2).setWidth 16)).toNat + 1) % 65536 ∧
    t.sp = s.sp + 2 ∧ Unchanged [.SP, .PC] [] s t

/-- The two round trips of the stack (R128, R222, the source's properties; D8, log 20): `Push16` then
`Pull16` returns the word and restores SP for every word and SP; and after JSR, an RTS with the
stack as JSR left it puts the address past the JSR in PC and restores SP. -/
def Obligations.StackRoundTrips : Prop :=
  (∀ (w : Addr) (s : State), Memory.wf s.mem = true →
    (s.push16 w).pullWord = w ∧ (s.push16 w).pulled16.sp = s.sp) ∧
  (∀ (w pc' : Addr) (s t : State), Memory.wf s.mem = true → exec (.jsrAbsolute w) s = .next t →
    ∃ u, exec .rts (t.setPC pc') = .next u ∧ u.pc = s.pc + 2 ∧ u.sp = s.sp)

/-- PHA and PHP push A, and P with bits 4 and 5 set, at 0x0100 + SP, then decrement SP; the live P stays
(R223, R225). Rests on D8 (log 20). -/
def Obligations.PushesWriteStackPage : Prop :=
  ∀ s : State, Memory.wf s.mem = true →
    ∀ c ∈ [(Instr.pha, s.a), (.php, s.p ||| 0x30)],
      ∃ t, exec c.1 s = .next t ∧ StoredAt (0x0100 + s.sp.setWidth 16) c.2 s t ∧
        t.sp = s.sp - 1 ∧ Unchanged [.SP] [] s t

/-- PLA pulls A and sets Z and N (R224, D9); PLP pulls P and forces B to 0 and U to 1 (R226). Rests on D8
and D9 (log 20, 21). -/
def Obligations.PullsReadStackPage : Prop :=
  ∀ s : State,
    Completes .pla s (fun t => t.a = s.readByte (0x0100 + (s.sp + 1).setWidth 16) ∧ ZNOf t.a t ∧
      t.sp = s.sp + 1 ∧ Unchanged [.A, .SP] [.Z, .N] s t) ∧
    Completes .plp s (fun t => t.sp = s.sp + 1 ∧ t.flag .B = false ∧ t.flag .U = true ∧
      (∀ f, f ≠ .B → f ≠ .U →
        t.flag f = getFlag (s.readByte (0x0100 + (s.sp + 1).setWidth 16)) f) ∧
      Unchanged [.SP] [.C, .Z, .I, .D, .B, .U, .V, .N] s t)

/-- RTI pulls all eight bits of P with no forcing, then PC, low byte first, with nothing added (R227,
R312). Rests on D8 (log 20). -/
def Obligations.RtiRestoresStatusAndPC : Prop :=
  ∀ s : State, Completes .rti s fun t =>
    t.p = s.readByte (0x0100 + (s.sp + 1).setWidth 16) ∧
    t.pc.toNat = (s.readByte (0x0100 + (s.sp + 2).setWidth 16)).toNat +
      256 * (s.readByte (0x0100 + (s.sp + 3).setWidth 16)).toNat ∧
    t.sp = s.sp + 3 ∧ Unchanged [.SP, .PC] [.C, .Z, .I, .D, .B, .U, .V, .N] s t

/-- R228 to R234: each flag operation writes its one flag and changes nothing else. -/
def Obligations.FlagOpsWriteOneFlag : Prop :=
  ∀ s : State, ∀ c ∈ [(Instr.sec, Flag.C, true), (.clc, .C, false), (.sei, .I, true), (.cli, .I, false),
      (.sed, .D, true), (.cld, .D, false), (.clv, .V, false)],
    Completes c.1 s fun t => t.flag c.2.1 = c.2.2 ∧ Unchanged [] [c.2.1] s t

/-- R235 for 0xEA, and the 27 undocumented NOPs (their bytes and the missing data read are D12 and D16, log
24, 28): nothing changes, and the step moves PC past the instruction. -/
def Obligations.NopsOnlyAdvance : Prop :=
  ∀ (b : Byte) (w : Addr) (s : State), ∀ i ∈ formsNOP b w,
    exec i s = .next s ∧ (Fetches i s → step s = .next (s.setPC (s.pc + BitVec.ofNat 16 i.length)))

/-- R303, R304: BRK sets B and halts; each KIL opcode halts and changes nothing else; a step of either
leaves PC at the opcode's address + 1. -/
def Obligations.HaltsStopTheEngine : Prop :=
  ∀ s : State,
    exec .brk s = .next ((s.setFlag .B true).setRun (.halted .brk)) ∧
    (∀ i ∈ formsKIL, exec i s = .next (s.setRun (.halted .kil))) ∧
    (Fetches .brk s →
      step s = .next (((s.setFlag .B true).setRun (.halted .brk)).setPC (s.pc + 1))) ∧
    (∀ i ∈ formsKIL, Fetches i s →
      step s = .next ((s.setRun (.halted .kil)).setPC (s.pc + 1)))

/-! ### Undocumented opcodes: their bytes, modes and effects are the spec's decision D12 (log 24) -/

/-- LAX loads A and X; SAX stores A AND X; LAS puts the operand AND SP in A, X and SP (R261, R262, R275;
D12). -/
def Obligations.FusedLoadsAndStores : Prop :=
  ∀ (b : Byte) (w : Addr) (s : State), Memory.wf s.mem = true →
    (∀ i ∈ formsLAX b w, Completes i s fun t => t.a = readOperand i.operand s ∧
      t.x = readOperand i.operand s ∧ ZNOf t.a t ∧ Unchanged [.A, .X] [.Z, .N] s t) ∧
    (∀ i ∈ formsSAX b w, WritesOperand i s (s.a &&& s.x) (Unchanged [] [] s)) ∧
    (∀ i ∈ formsLAS b w, Completes i s fun t => t.a = readOperand i.operand s &&& s.sp ∧
      t.x = t.a ∧ t.sp = t.a ∧ ZNOf t.a t ∧ Unchanged [.A, .X, .SP] [.Z, .N] s t)

/-- DCP is DEC then CMP, ISC is INC then SBC, on the byte at the operand's address (R263, R264; D12). -/
def Obligations.FusedIncrementsCompareOrSubtract : Prop :=
  ∀ (b : Byte) (w : Addr) (s : State), Memory.wf s.mem = true →
    (∀ i ∈ formsDCP b w, WritesOperand i s (readOperand i.operand s - 1) fun t =>
      CompareEffect s.a (readOperand i.operand s - 1) t ∧ Unchanged [] [.C, .Z, .N] s t) ∧
    (∀ i ∈ formsISC b w, WritesOperand i s (readOperand i.operand s + 1) fun t =>
      AddEffect (~~~(readOperand i.operand s + 1)) (s.flag .C) s t ∧
      Unchanged [.A] [.C, .Z, .V, .N] s t)

/-- SLO is ASL then ORA, RLA is ROL then AND, SRE is LSR then EOR, RRA is ROR then ADC with the bit shifted
out as the carry in (R265 to R268; D12). -/
def Obligations.FusedShiftsCombineWithA : Prop :=
  ∀ (b : Byte) (w : Addr) (s : State), Memory.wf s.mem = true →
    (∀ i ∈ formsSLO b w, WritesOperand i s (asl1 (readOperand i.operand s)).1 fun t =>
      t.a = s.a ||| (asl1 (readOperand i.operand s)).1 ∧
      t.flag .C = (asl1 (readOperand i.operand s)).2 ∧ ZNOf t.a t ∧
      Unchanged [.A] [.C, .Z, .N] s t) ∧
    (∀ i ∈ formsRLA b w, WritesOperand i s (rol1 (readOperand i.operand s) (s.flag .C)).1 fun t =>
      t.a = s.a &&& (rol1 (readOperand i.operand s) (s.flag .C)).1 ∧
      t.flag .C = (rol1 (readOperand i.operand s) (s.flag .C)).2 ∧ ZNOf t.a t ∧
      Unchanged [.A] [.C, .Z, .N] s t) ∧
    (∀ i ∈ formsSRE b w, WritesOperand i s (lsr1 (readOperand i.operand s)).1 fun t =>
      t.a = s.a ^^^ (lsr1 (readOperand i.operand s)).1 ∧
      t.flag .C = (lsr1 (readOperand i.operand s)).2 ∧ ZNOf t.a t ∧
      Unchanged [.A] [.C, .Z, .N] s t) ∧
    (∀ i ∈ formsRRA b w, WritesOperand i s (ror1 (readOperand i.operand s) (s.flag .C)).1 fun t =>
      AddEffect (ror1 (readOperand i.operand s) (s.flag .C)).1
        (ror1 (readOperand i.operand s) (s.flag .C)).2 s t ∧
      Unchanged [.A] [.C, .Z, .V, .N] s t)

/-- ANC, ALR, ARR, AXS and the SBC alias 0xEB (R269 to R272, R280; D12, D15, D26, log 24, 27, 38). -/
def Obligations.ImmediateFusionsComputeTheirResults : Prop :=
  ∀ (m : Byte) (s : State),
    (∀ i ∈ [Instr.ancImmediate0B m, .ancImmediate2B m], Completes i s fun t =>
      t.a = s.a &&& m ∧ ZNOf t.a t ∧ t.flag .C = t.flag .N ∧ Unchanged [.A] [.C, .Z, .N] s t) ∧
    Completes (.alrImmediate m) s (fun t => t.a = (lsr1 (s.a &&& m)).1 ∧
      t.flag .C = (lsr1 (s.a &&& m)).2 ∧ ZNOf t.a t ∧ Unchanged [.A] [.C, .Z, .N] s t) ∧
    Completes (.arrImmediate m) s (fun t => t.a = (ror1 (s.a &&& m) (s.flag .C)).1 ∧
      t.flag .C = decide (t.a.toNat / 64 % 2 = 1) ∧
      t.flag .V = decide (t.a.toNat / 64 % 2 ≠ t.a.toNat / 32 % 2) ∧ ZNOf t.a t ∧
      Unchanged [.A] [.C, .Z, .V, .N] s t) ∧
    Completes (.axsImmediate m) s (fun t =>
      t.x.toNat = ((s.a &&& s.x).toNat + 256 - m.toNat) % 256 ∧
      t.flag .C = decide (m.toNat ≤ (s.a &&& s.x).toNat) ∧ ZNOf t.x t ∧
      Unchanged [.X] [.C, .Z, .N] s t) ∧
    Completes (.sbcImmediateEB m) s (fun t =>
      AddEffect (~~~m) (s.flag .C) s t ∧ Unchanged [.A] [.C, .Z, .V, .N] s t)

/-- The unstable opcodes under the policy `fusion` (D13, D14, log 25, 26): LXA loads A and X, XAA puts X AND
the immediate in A (R273, R274); SHA, SHX, SHY and TAS store a register AND the high byte of the
base plus 1 at the resolved address, and TAS also writes SP (R276 to R279). The base is the operand
word, or for 0x93 the word at the zero-page pointer. -/
def Obligations.UnstableOpcodesUnderFusion : Prop :=
  ∀ (b : Byte) (w : Addr) (s : State), s.policy = .fusion → Memory.wf s.mem = true →
    Completes (.lxaImmediate b) s (fun t => t.a = b ∧ t.x = b ∧ ZNOf b t ∧
      Unchanged [.A, .X] [.Z, .N] s t) ∧
    Completes (.xaaImmediate b) s (fun t => t.a = s.x &&& b ∧ ZNOf t.a t ∧
      Unchanged [.A] [.Z, .N] s t) ∧
    WritesOperand (.shaAbsoluteY w) s (s.a &&& s.x &&& BitVec.ofNat 8 (w.toNat / 256 + 1))
      (Unchanged [] [] s) ∧
    WritesOperand (.shaIndirectY b) s
      (s.a &&& s.x &&& BitVec.ofNat 8 ((s.zeroPagePointer b).toNat / 256 + 1)) (Unchanged [] [] s) ∧
    WritesOperand (.shxAbsoluteY w) s (s.x &&& BitVec.ofNat 8 (w.toNat / 256 + 1))
      (Unchanged [] [] s) ∧
    WritesOperand (.shyAbsoluteX w) s (s.y &&& BitVec.ofNat 8 (w.toNat / 256 + 1))
      (Unchanged [] [] s) ∧
    WritesOperand (.tasAbsoluteY w) s (s.a &&& s.x &&& BitVec.ofNat 8 (w.toNat / 256 + 1))
      (fun t => t.sp = s.a &&& s.x ∧ Unchanged [.SP] [] s t)

/-- R284, after the spec's decision D13 (log 25): `exec` refuses in one case only, one of the seven unstable
opcodes under the policy `refuse`, and there it always refuses. -/
def Obligations.RefusedExactlyUnderRefusePolicy : Prop :=
  ∀ (i : Instr) (s : State),
    (∃ r, exec i s = .refused r) ↔
      s.policy = .refuse ∧ i.opcode ∈ [(0x8B : Byte), 0xAB, 0x93, 0x9F, 0x9E, 0x9C, 0x9B]

/-! ### The bus -/

/-- R58: the four addresses of a RAM byte name the same byte, so a write through any of them is read back
through all of them. -/
def Obligations.RamIsMirroredFourTimes : Prop :=
  ∀ (s t : State) (op v : Byte) (o j k : Nat), Memory.wf s.mem = true → o < 0x800 → j < 4 → k < 4 →
    writeByte op (BitVec.ofNat 16 (o + j * 0x800)) v s = .next t →
    t.readByte (BitVec.ofNat 16 (o + k * 0x800)) = v

/-- R54, R60 and R61, by region: a write in the RAM window stores, a write in 0x2000 to 0x7FFF changes
nothing, a write in 0x8000 to 0xFFFF faults. The stub of the PPU window is the spec's decision D4, the
record's program counter D22 (log 16, 34). -/
def Obligations.ByteWritesByRegion : Prop :=
  ∀ (op : Byte) (a : Addr) (v : Byte) (s : State), Memory.wf s.mem = true →
    (a.toNat < 0x2000 → ∃ t, writeByte op a v s = .next t ∧ StoredAt a v s t ∧ Unchanged [] [] s t) ∧
    (0x2000 ≤ a.toNat → a.toNat < 0x8000 → writeByte op a v s = .next s) ∧
    (0x8000 ≤ a.toNat → writeByte op a v s = .fault (.romWrite op (s.pc - 1) a))

/-- R57, R59, R61 by region: the PPU window (the spec's decision D4, log 16) and the unmapped range read
0x00, and with a 16 KB image the upper ROM bank reads as the lower one. -/
def Obligations.ByteReadsByRegion : Prop :=
  ∀ (s : State) (a : Addr),
    (0x2000 ≤ a.toNat → a.toNat < 0x8000 → s.readByte a = 0x00) ∧
    (s.prgSize = .bank16K → 0xC000 ≤ a.toNat → s.readByte a = s.readByte (a - 0x4000)) ∧
    (s.prgSize = .bank16K → 0x8000 ≤ a.toNat →
      s.readByte a = Memory.read s.mem (0x8000 + (a.toNat - 0x8000) % 0x4000)) ∧
    (s.prgSize = .bank32K → 0x8000 ≤ a.toNat → s.readByte a = Memory.read s.mem a.toNat)

/-- Word accesses are two byte accesses, the byte at the lower address first (R53, R55; the wrap at 0xFFFF is
D2, log 14). A word write is the write of the low byte and then, in the state that leaves, the write of
the high byte at the next address; a low byte that faults is all there is. The other clauses say what
that comes to at every address: two bytes stored, the low byte alone at the end of the RAM window,
nothing in 0x2000 to 0x7FFE, a fault at 0x8000 for 0x7FFF, and a fault at the address itself in ROM. -/
def Obligations.WordAccessesAreTwoBytes : Prop :=
  ∀ (op : Byte) (a w : Addr) (s : State), Memory.wf s.mem = true →
    (s.readWord a).toNat = (s.readByte a).toNat +
      256 * (s.readByte (BitVec.ofNat 16 ((a.toNat + 1) % 65536))).toNat ∧
    (∀ t, writeByte op a (BitVec.ofNat 8 (w.toNat % 256)) s = .next t →
      writeWord op a w s =
        writeByte op (BitVec.ofNat 16 ((a.toNat + 1) % 65536)) (BitVec.ofNat 8 (w.toNat / 256)) t) ∧
    (∀ f, writeByte op a (BitVec.ofNat 8 (w.toNat % 256)) s = .fault f →
      writeWord op a w s = .fault f) ∧
    (a.toNat < 0x1FFF → ∃ u t, writeWord op a w s = .next t ∧
      StoredAt a (BitVec.ofNat 8 (w.toNat % 256)) s u ∧
      StoredAt (a + 1) (BitVec.ofNat 8 (w.toNat / 256)) u t ∧
      t.readWord a = w ∧ Unchanged [] [] s t) ∧
    (a.toNat = 0x1FFF → ∃ t, writeWord op a w s = .next t ∧
      StoredAt a (BitVec.ofNat 8 (w.toNat % 256)) s t ∧ Unchanged [] [] s t) ∧
    (0x2000 ≤ a.toNat → a.toNat < 0x7FFF → writeWord op a w s = .next s) ∧
    (a.toNat = 0x7FFF → writeWord op a w s = .fault (.romWrite op (s.pc - 1) 0x8000)) ∧
    (0x8000 ≤ a.toNat → writeWord op a w s = .fault (.romWrite op (s.pc - 1) a))

/-! ### The address resolver -/

/-- R109 to R114, R117, R118: the resolver in the eleven modes other than the two zero-page pointer ones, which
the next statement has. It reads its operand bytes in memory at `PC = snap`; that a word read at 0xFFFF
takes its high byte from 0x0000 (R112) is the spec's decision D2 (log 14). Accumulator and Implied give
no address, and what reads or writes their operand reads or writes A. The last clauses are the uses
R111, R114 and R117 name: which instructions have the modes ZeroPage_Y, Indirect and Relative. -/
def Obligations.ResolverComputesEachNonPointerMode : Prop :=
  (∀ s : State,
    resolveAt .immediate s = some s.pc ∧
    resolveAt .zeroPage s = some (BitVec.ofNat 16 (s.readByte s.pc).toNat) ∧
    resolveAt .zeroPageX s = some (BitVec.ofNat 16 (((s.readByte s.pc).toNat + s.x.toNat) % 256)) ∧
    resolveAt .zeroPageY s = some (BitVec.ofNat 16 (((s.readByte s.pc).toNat + s.y.toNat) % 256)) ∧
    resolveAt .absolute s = some (s.readWord s.pc) ∧
    resolveAt .absoluteX s = some (BitVec.ofNat 16 (((s.readWord s.pc).toNat + s.x.toNat) % 65536)) ∧
    resolveAt .absoluteY s = some (BitVec.ofNat 16 (((s.readWord s.pc).toNat + s.y.toNat) % 65536)) ∧
    resolveAt .indirect s = some (BitVec.ofNat 16 ((s.readByte (s.readWord s.pc)).toNat +
      256 * (s.readByte (if (s.readWord s.pc).toNat % 256 = 255 then s.readWord s.pc - 255
        else s.readWord s.pc + 1)).toNat)) ∧
    resolveAt .relative s = some (BitVec.ofInt 16 (s.pc.toNat + 1 + (s.readByte s.pc).toInt)) ∧
    resolveAt .accumulator s = none ∧
    resolveAt .implied s = none ∧
    readOperand .accumulator s = s.a ∧ readOperand .implied s = s.a ∧
    ∀ (op v : Byte), writeBack op .accumulator v s = .next (s.setA v)) ∧
  ∀ e ∈ opTable,
    (e.mode = .zeroPageY → e.mnemonic ∈ [.LDX, .STX, .LAX, .SAX]) ∧
    (e.mode = .indirect → e.mnemonic = .JMP) ∧
    (e.mode = .relative → e.mnemonic ∈ [.BCC, .BCS, .BEQ, .BNE, .BPL, .BMI, .BVC, .BVS])

/-- R115, R116: the two pointer modes. That the pointer's high byte stays in page 0 is the spec's own
decision D7 (log 19). -/
def Obligations.ResolverPointerModesStayInPageZero : Prop :=
  ∀ s : State, ∀ p : Nat,
    (p = ((s.readByte s.pc).toNat + s.x.toNat) % 256 →
      resolveAt .indirectX s = some (BitVec.ofNat 16 ((s.readByte (BitVec.ofNat 16 p)).toNat +
        256 * (s.readByte (BitVec.ofNat 16 ((p + 1) % 256))).toNat))) ∧
    (p = (s.readByte s.pc).toNat →
      resolveAt .indirectY s = some (BitVec.ofNat 16 (((s.readByte (BitVec.ofNat 16 p)).toNat +
        256 * (s.readByte (BitVec.ofNat 16 ((p + 1) % 256))).toNat + s.y.toNat) % 65536)))

/-- R120: the operand a mode reads, for the operand that stands in memory at `PC = snap`: the byte at the
resolved address (for Immediate the byte at `snap`), or A where there is none. -/
def Obligations.OperandIsByteAtResolvedAddress : Prop :=
  ∀ (m : Mode) (s : State), readOperand (fetchOperand m s) s =
    match resolveAt m s with
    | some ea => s.readByte ea
    | none => s.a

/-! ### Encoding -/

/-- Decoding is a left inverse of encoding, for every instruction and every operand (R80 to R84, R88). -/
def Obligations.DecodeOfEncodeIsIdentity : Prop :=
  ∀ (i : Instr) (rest : List Byte), decode (encode i ++ rest) = .ok (i, rest)

/-- Encoding is a left inverse of decoding: what was decoded encodes to the bytes that were read. -/
def Obligations.EncodeOfDecodeIsIdentity : Prop :=
  ∀ (bs rest : List Byte) (i : Instr), decode bs = .ok (i, rest) → encode i ++ rest = bs

/-- R82: the table entry of byte 0 alone tells how many bytes the decoder takes, and its length is the one
its mode gives. -/
def Obligations.LengthComesFromOpcodeByte : Prop :=
  ∀ (op : Byte) (bs rest : List Byte) (i : Instr), decode (op :: bs) = .ok (i, rest) →
    ∃ e, opEntry op = some e ∧ e.code = op ∧ e.length = e.mode.length ∧
      i.operand.mode = e.mode ∧ bs.length + 1 = e.length + rest.length

/-- R87: the table is total, so an opcode byte with its operand bytes always decodes; 151 entries are
documented and 105 are not (which ones is the standard map's, D12 and D27, log 24, 39). -/
def Obligations.OpcodeTableIsTotal : Prop :=
  (∀ op b1 b2 : Byte, ∃ e i rest, opEntry op = some e ∧ decode [op, b1, b2] = .ok (i, rest)) ∧
  opTable.length = 256 ∧
  (opTable.filter (fun e => e.status == .documented)).length = 151 ∧
  (opTable.filter (fun e => e.status != .documented)).length = 105

/-- Words written out from R88 and R93, one for each addressing mode, decode to their instructions. -/
def Obligations.WrittenWordsDecode : Prop :=
  [decodeTableWord 16 0x05A9, decodeTableWord 16 0x10A5, decodeTableWord 16 0x10B5,
   decodeTableWord 16 0x10B6, decodeTableWord 24 0x80054C, decodeTableWord 24 0x0200BD,
   decodeTableWord 24 0x0200B9, decodeTableWord 24 0x02FF6C, decodeTableWord 16 0x20A1,
   decodeTableWord 16 0x20B1, decodeTableWord 16 0xFAD0, decodeTableWord 8 0x0A,
   decodeTableWord 8 0xAA] =
  [some (.ldaImmediate 0x05), some (.ldaZeroPage 0x10), some (.ldaZeroPageX 0x10),
   some (.ldxZeroPageY 0x10), some (.jmpAbsolute 0x8005), some (.ldaAbsoluteX 0x0200),
   some (.ldaAbsoluteY 0x0200), some (.jmpIndirect 0x02FF), some (.ldaIndirectX 0x20),
   some (.ldaIndirectY 0x20), some (.bne 0xFA), some .aslAccumulator, some .tax]

/-! ### The step -/

/-- A step runs the decoded instruction: where the bytes at PC decode to `i`, the step is `exec i` with PC
at `snap`, then the advance of R104 (R100 to R104). -/
def Obligations.StepRunsDecodedInstruction : Prop :=
  ∀ (i : Instr) (rest : List Byte) (s : State), s.resetDone = true → s.run = .running →
    decode [s.readByte s.pc, s.readByte (s.pc + 1), s.readByte (s.pc + 2)] = .ok (i, rest) →
    (∀ t, exec i (s.setPC (s.pc + 1)) = .next t → step s = .next
      (if t.run = .running ∧ t.pc = s.pc + 1 then t.setPC (t.pc + BitVec.ofNat 16 (i.length - 1))
       else t)) ∧
    (∀ f, exec i (s.setPC (s.pc + 1)) = .fault f → step s = .fault f) ∧
    (∀ r, exec i (s.setPC (s.pc + 1)) = .refused r → step s = .refused r)

/-- Fetch and decode never fail, and give the table row's mode with the operand bytes at `snap` (R101,
R102, R107, from the total table of R87). -/
def Obligations.EveryFetchDecodes : Prop :=
  ∀ s : State, ∃ i e, s.fetchInstr = .ok i ∧ i.opcode = s.readByte s.pc ∧
    opEntry (s.readByte s.pc) = some e ∧ i.length = e.length ∧
    i.operand = fetchOperand e.mode (s.setPC (s.pc + 1))

/-- No step is taken from Halted or Faulted (the first sentence of R105). -/
def Obligations.NoStepFromHaltedOrFaulted : Prop :=
  ∀ s t : State, s.run ≠ .running → step s ≠ .next t

/-- R130: no instruction but the control transfers writes PC; a step of any other instruction that leaves
the engine running ends just past the instruction, and BRK and KIL halt with PC at `snap`. -/
def Obligations.OnlyControlTransfersWritePC : Prop :=
  ∀ (i : Instr) (s : State), i.opcode ∉ controlTransfers →
    (∀ t, exec i s = .next t → t.pc = s.pc) ∧
    (∀ t, Fetches i s → step s = .next t →
      (t.run = .running → t.pc = s.pc + BitVec.ofNat 16 i.length) ∧
      (t.run ≠ .running → t.pc = s.pc + 1))

/-- Who writes SP (R24), V (R28), I and D (R29), B and U (R30): every other instruction leaves them. -/
def Obligations.OnlyListedInstructionsWriteSPAndFlags : Prop :=
  ∀ (i : Instr) (s t : State) (e : OpEntry), exec i s = .next t → opEntry i.opcode = some e →
    (e.mnemonic ∉ [.TXS, .TAS, .LAS, .JSR, .RTS, .RTI, .PHA, .PHP, .PLA, .PLP] → t.sp = s.sp) ∧
    (e.mnemonic ∉ [.ADC, .SBC, .BIT, .CLV, .PLP, .RTI, .RRA, .ISC, .ARR] → t.flag .V = s.flag .V) ∧
    (e.mnemonic ∉ [.SEI, .CLI, .PLP, .RTI] → t.flag .I = s.flag .I) ∧
    (e.mnemonic ∉ [.SED, .CLD, .PLP, .RTI] → t.flag .D = s.flag .D) ∧
    (e.mnemonic ∉ [.BRK, .PLP, .RTI] → t.flag .B = s.flag .B) ∧
    (e.mnemonic ∉ [.PLP, .RTI] → t.flag .U = s.flag .U)

/-- P.I and P.D have no effect on any other rule (R29): two steps from states that differ in one of them
alone end alike and differ in it alone. PHP, which stores P, is the one exception. -/
def Obligations.InterruptAndDecimalFlagsAreInert : Prop :=
  ∀ (f : Flag) (b : Bool) (s : State), f = .I ∨ f = .D → s.readByte s.pc ≠ 0x08 →
    match step s, step (s.setFlag f b) with
    | .next t, .next u => AgreeBut f t u
    | .fault e, .fault e' => e = e'
    | .refused r, .refused r' => r = r'
    | _, _ => False

/-- Faults are precise (R301, R302, R305, R307): a step faults only with `RomWrite`, for a ROM address, and
the record holds the opcode byte at PC and PC itself (which PC is meant is D22, log 34). -/
def Obligations.FaultsArePrecise : Prop :=
  ∀ (s : State) (f : Fault), step s = .fault f →
    ∃ a : Addr, 0x8000 ≤ a.toNat ∧ f = .romWrite (s.readByte s.pc) s.pc a

/-- R302: exactly the instructions of its list raise `RomWrite`, and exactly where their effective address
lies in ROM (under the policy `fusion`, which lets all of them run). -/
def Obligations.RomWriteExactlyForWritersIntoRom : Prop :=
  ∀ (i : Instr) (s : State), s.policy = .fusion →
    ((∃ f, exec i s = .fault f) ↔
      i.opcode ∈ writesMemory ∧ ∃ ea, resolve i.operand s = some ea ∧ 0x8000 ≤ ea.toNat) ∧
    ∀ f, exec i s = .fault f →
      ∃ ea, resolve i.operand s = some ea ∧ f = .romWrite i.opcode (s.pc - 1) ea

/-! ### Invariants -/

/-- Every step keeps the memory invariant: the canonical form, and physical bytes only. -/
def Obligations.StepKeepsMemoryInvariant : Prop :=
  ∀ s t : State, s.memOk = true → step s = .next t → t.memOk = true

/-- The memory invariant holds after reset. -/
def Obligations.ResetMemoryInvariant : Prop := State.reset.memOk = true

/-- No step changes the ROM image, its size, the policy or that a reset has happened: the program ROM is
immutable (R35, R60), so ROM code cannot be modified (R343). -/
def Obligations.StepKeepsRomAndParameters : Prop :=
  ∀ s t : State, s.memOk = true → step s = .next t → SameMachine s t

/-- The ROM image is the same in every state a run reaches. -/
def Obligations.RomIsImmutableAlongRuns : Prop :=
  ∀ s t : State, s.memOk = true → Reaches s t → t.memOk = true ∧ SameMachine s t

/-! ### Reset and host operations: their edges are the spec's decisions D3, D20, D21, D23, D24 (log 15, 32,
33, 35, 36) -/

/-- `reset()` (R330, R38): the registers, flags and PC it leaves; RAM and ROM as they were (D3). -/
def Obligations.ResetLeavesSpecifiedState : Prop :=
  ∀ s : State, (∀ f, s.run ≠ .faulted f) → ∃ t, hostReset s = .next t ∧
    t.a = 0x00 ∧ t.x = 0x00 ∧ t.y = 0x00 ∧ t.sp = 0xFD ∧ t.p = 0x24 ∧
    t.pc.toNat = (s.readByte 0xFFFC).toNat + 256 * (s.readByte 0xFFFD).toNat ∧
    t.run = .running ∧ SameMemory s t ∧ t.resetDone = true

/-- `State.reset` is what `reset()` leaves of itself, and its flags are those of R38. -/
def Obligations.ResetStateIsAfterReset : Prop :=
  hostReset State.reset = .next State.reset ∧
  (∀ f, State.reset.flag f = decide (f = .I ∨ f = .U)) ∧ State.reset.run = .running

/-- Boot (R332, R338; D24): after `load` and `reset` the engine runs at 0x8000 with the program's bytes
there, up to the vector, and RAM as it was. -/
def Obligations.LoadThenResetBootsProgram : Prop :=
  ∀ (program : List Byte) (s : State), s.memOk = true → (∀ f, s.run ≠ .faulted f) →
    program.length ≤ 0x8000 →
    ∃ t u, hostLoad program s = .next t ∧ hostReset t = .next u ∧ u.pc = 0x8000 ∧ u.memOk = true ∧
      (∀ k, k < program.length → k < 0x7FFC →
        u.readByte (BitVec.ofNat 16 (0x8000 + k)) = program.getD k 0) ∧
      (∀ a : Addr, a.toNat < 0x2000 → u.readByte a = s.readByte a)

/-- What may be called when (R346; D20, D21): before the first reset a run and a step are refused, and
after a fault a reset, a load and a run are. -/
def Obligations.HostOperationsRefusedOutOfTurn : Prop :=
  ∀ (s : State) (program : List Byte) (budget : Nat),
    (s.resetDone = false →
      step s = .refused .beforeReset ∧ hostRun budget s = .refused .beforeReset []) ∧
    (∀ f, s.run = .faulted f →
      hostReset s = .refused (.engineFaulted f) ∧
      hostLoad program s = .refused (.engineFaulted f) ∧
      (s.resetDone = true → hostRun budget s = .refused (.engineFaulted f) []))

/-- The observer changes nothing (R106; D19, log 31), and what the run loop of R335 does. Step by step: it takes
no step unless Running (D23, log 35); a step that gives `t` puts what the observer saw before it in
front of the loop from `t`; a fault ends the run Faulted with its record (R305, log 4); a step budget
that is used up ends it at a boundary, still Running (R345, log 11). As a whole: the states `bs`
that the observer saw are the boundaries of a run of steps from `s` to where it ended, one for each step
taken, the one that faulted or was refused among them. Under every observer it ends alike. -/
def Obligations.ObserverChangesNothing : Prop :=
  ∀ (obs : State → State) (budget : Nat) (s : State),
    ((s.run ≠ .running → runLoop obs budget s = .stopped s []) ∧
      (s.run = .running → runLoop obs 0 s = .outOfBudget s []) ∧
      (∀ t, s.run = .running → step s = .next t →
        runLoop obs (budget + 1) s = (runLoop obs budget t).cons (obs s)) ∧
      (∀ f, s.run = .running → step s = .fault f →
        ∃ t, runLoop obs (budget + 1) s = .stopped t [obs s] ∧ t.run = .faulted f)) ∧
    (∀ t seen, hostRunWithCallback obs budget s = .stopped t seen →
      (∃ bs, seen = bs.map obs ∧ StepsThrough s bs t ∧ t.run ≠ .running ∧ bs.length ≤ budget) ∨
      (∃ bs u f, seen = (bs ++ [u]).map obs ∧ StepsThrough s bs u ∧ u.run = .running ∧
        step u = .fault f ∧ t.run = .faulted f ∧ bs.length < budget)) ∧
    (∀ t seen, hostRunWithCallback obs budget s = .outOfBudget t seen →
      ∃ bs, seen = bs.map obs ∧ StepsThrough s bs t ∧ t.run = .running ∧ bs.length = budget) ∧
    (∀ r seen, hostRunWithCallback obs budget s = .refused r seen →
      (seen = [] ∧ (s.resetDone = false ∨ ∃ f, s.run = .faulted f)) ∨
      (∃ bs u, seen = (bs ++ [u]).map obs ∧ StepsThrough s bs u ∧ u.run = .running ∧
        step u = .refused r)) ∧
    (∀ t seen, hostRunWithCallback obs budget s = .stopped t seen →
      hostRun budget s = .stopped t (List.replicate seen.length ())) ∧
    (∀ t seen, hostRunWithCallback obs budget s = .outOfBudget t seen →
      hostRun budget s = .outOfBudget t (List.replicate seen.length ())) ∧
    (∀ r seen, hostRunWithCallback obs budget s = .refused r seen →
      hostRun budget s = .refused r (List.replicate seen.length ()))
end

