-- ==== Sys2Proof/Laws/Memory.lean ====
section
/-! SUPPORT. Memory as a list of cells: read after write, and every operation keeps the canonical form and
the keys. -/

namespace Sys2Proof.Machine

variable {m : List Host.Cell} {k j : Nat} {v : Byte}

/-- A canonical memory is a head that is listed for a reason, below a canonical tail. -/
theorem wf_cons {w : Byte} {rest : List Host.Cell} :
    Memory.wf ((k, w) :: rest) = true ↔
      w ≠ unlistedByte k ∧ (∀ c ∈ rest, k < c.1) ∧ Memory.wf rest = true := by
  simp [Memory.wf, and_assoc]

/-- A key below every listed key is not listed. -/
theorem read_below (h : ∀ c ∈ m, k < c.1) : Memory.read m k = unlistedByte k := by
  induction m with
  | nil => rfl
  | cons c rest ih =>
    have hc := h c (by simp)
    have : c.1 ≠ k := by omega
    simp [Memory.read, this, ih fun d hd => h d (by simp [hd])]

/-- The cells after a key's cell: what stands in front of a tail that lists nothing at the key. -/
theorem read_cell (h : Memory.read m k = unlistedByte k) :
    Memory.read (Memory.cell k v m) j = if j = k then v else Memory.read m j := by
  unfold Memory.cell
  split
  · next hv => split
               · next hj => rw [hj, h, hv]
               · rfl
  · simp [Memory.read, eq_comm]

/-- Read after write, at the written key and elsewhere. -/
theorem read_write (h : Memory.wf m = true) :
    Memory.read (Memory.write m k v) j = if j = k then v else Memory.read m j := by
  induction m with
  | nil => exact read_cell rfl
  | cons c rest ih =>
    obtain ⟨i, w⟩ := c
    obtain ⟨-, hlt, hrest⟩ := wf_cons.1 h
    unfold Memory.write
    split
    · next hki =>
      refine read_cell (read_below ?_)
      rintro d (_ | ⟨_, hd⟩)
      · exact hki
      · exact hki.trans (hlt d hd)
    · split
      · next hne hki =>
        subst hki
        rw [read_cell (read_below hlt)]
        split
        · rfl
        · next hj => simp [Memory.read, Ne.symm hj]
      · next hne hki =>
        simp only [Memory.read, ih hrest]
        split
        · next hij => simp [← hij, Ne.symm hki]
        · rfl

/-- The keys a write leaves listed are the old ones and the written one. -/
theorem mem_write {c : Host.Cell} (h : c ∈ Memory.write m k v) : c ∈ m ∨ c.1 = k := by
  have hcell : ∀ {rest : List Host.Cell}, c ∈ Memory.cell k v rest → c ∈ rest ∨ c.1 = k := by
    intro rest hc
    unfold Memory.cell at hc
    split at hc
    · exact .inl hc
    · rcases List.mem_cons.1 hc with rfl | hc
      · exact .inr rfl
      · exact .inl hc
  induction m with
  | nil => exact hcell h
  | cons d rest ih =>
    obtain ⟨i, w⟩ := d
    unfold Memory.write at h
    split at h
    · exact hcell h
    · split at h
      · rcases hcell h with h | h
        · exact .inl (by simp [h])
        · exact .inr h
      · rcases List.mem_cons.1 h with rfl | h
        · exact .inl (by simp)
        · rcases ih h with h | h
          · exact .inl (by simp [h])
          · exact .inr h

/-- A write keeps the canonical form. -/
theorem wf_write (h : Memory.wf m = true) : Memory.wf (Memory.write m k v) = true := by
  have hcell : ∀ {rest : List Host.Cell}, Memory.wf rest = true → (∀ c ∈ rest, k < c.1) →
      Memory.wf (Memory.cell k v rest) = true := by
    intro rest hw hlt
    unfold Memory.cell
    split
    · exact hw
    · next hv => exact wf_cons.2 ⟨hv, hlt, hw⟩
  induction m with
  | nil => exact hcell rfl (by simp)
  | cons c rest ih =>
    obtain ⟨i, w⟩ := c
    obtain ⟨hw, hlt, hrest⟩ := wf_cons.1 h
    unfold Memory.write
    split
    · next hki =>
      refine hcell h ?_
      rintro d (_ | ⟨_, hd⟩)
      · exact hki
      · exact hki.trans (hlt d hd)
    · split
      · next hne hki => subst hki; exact hcell hrest hlt
      · next hne hki =>
        refine wf_cons.2 ⟨hw, fun d hd => ?_, ih hrest⟩
        rcases mem_write hd with hd | hd
        · exact hlt d hd
        · omega

/-- Two canonical memories that read alike are the same list. -/
theorem wf_ext {m' : List Host.Cell} (h : Memory.wf m = true) (h' : Memory.wf m' = true)
    (heq : ∀ key, Memory.read m key = Memory.read m' key) : m = m' := by
  induction m generalizing m' with
  | nil =>
    cases m' with
    | nil => rfl
    | cons c rest =>
      obtain ⟨hw, hlt, -⟩ := wf_cons.1 h'
      exact absurd (by simpa [Memory.read] using (heq c.1).symm) hw
  | cons c rest ih =>
    obtain ⟨i, w⟩ := c
    obtain ⟨hw, hlt, hrest⟩ := wf_cons.1 h
    cases m' with
    | nil => exact absurd (by simpa [Memory.read] using heq i) hw
    | cons c' rest' =>
      obtain ⟨i', w'⟩ := c'
      obtain ⟨hw', hlt', hrest'⟩ := wf_cons.1 h'
      have hi : i = i' := by
        by_contra hne
        rcases Nat.lt_or_gt_of_ne hne with hlt2 | hlt2
        · have := heq i
          rw [read_below (m := (i', w') :: rest') (k := i)] at this
          · simp [Memory.read] at this; exact hw this
          · rintro d (_ | ⟨_, hd⟩)
            · exact hlt2
            · exact hlt2.trans (hlt' d hd)
        · have := heq i'
          rw [read_below (m := (i, w) :: rest) (k := i')] at this
          · simp [Memory.read] at this; exact hw' this.symm
          · rintro d (_ | ⟨_, hd⟩)
            · exact hlt2
            · exact hlt2.trans (hlt d hd)
      subst hi
      have hww : w = w' := by simpa [Memory.read] using heq i
      subst hww
      rw [ih hrest hrest' fun key => ?_]
      by_cases hk : i = key
      · subst hk; rw [read_below hlt, read_below hlt']
      · simpa [Memory.read, hk] using heq key

/-- Writing a list of bytes keeps the canonical form. -/
theorem wf_writeList (bs : List Byte) (h : Memory.wf m = true) :
    Memory.wf (Memory.writeList m k bs) = true := by
  induction bs generalizing m k with
  | nil => exact h
  | cons b rest ih => exact ih (wf_write h)

/-- Reading after writing a list of bytes. -/
theorem read_writeList (bs : List Byte) (h : Memory.wf m = true) :
    Memory.read (Memory.writeList m k bs) j =
      if k ≤ j ∧ j < k + bs.length then bs.getD (j - k) 0 else Memory.read m j := by
  induction bs generalizing m k with
  | nil => simp [Memory.writeList]
  | cons b rest ih =>
    rw [Memory.writeList, ih (wf_write h), read_write h]
    by_cases hj : j = k
    · subst hj; simp
    · rw [if_neg hj]
      by_cases hr : k + 1 ≤ j ∧ j < k + 1 + rest.length
      · rw [if_pos hr, if_pos ⟨by omega, by simp; omega⟩]
        obtain ⟨d, rfl⟩ : ∃ d, j = k + 1 + d := ⟨j - (k + 1), by omega⟩
        simp [show k + 1 + d - k = d + 1 by omega]
      · rw [if_neg hr, if_neg (by simp; omega)]

/-- The keys that writing a list of bytes leaves listed. -/
theorem mem_writeList {c : Host.Cell} (bs : List Byte) (h : c ∈ Memory.writeList m k bs) :
    c ∈ m ∨ (k ≤ c.1 ∧ c.1 < k + bs.length) := by
  induction bs generalizing m k with
  | nil => exact .inl h
  | cons b rest ih =>
    rcases ih h with h | h
    · rcases mem_write h with h | h
      · exact .inl h
      · exact .inr ⟨by omega, by simp; omega⟩
    · exact .inr ⟨by omega, by simp; omega⟩

/-- Filtering cells keeps the canonical form. -/
theorem wf_filter (q : Host.Cell → Bool) (h : Memory.wf m = true) : Memory.wf (m.filter q) = true := by
  induction m with
  | nil => rfl
  | cons c rest ih =>
    obtain ⟨i, w⟩ := c
    obtain ⟨hw, hlt, hrest⟩ := wf_cons.1 h
    rw [List.filter_cons]
    split
    · exact wf_cons.2 ⟨hw, fun d hd => hlt d (List.mem_filter.1 hd).1, ih hrest⟩
    · exact ih hrest

/-- RAM built from an initial image is canonical, and lists RAM keys only. -/
theorem ramCells_ok (init : Nat → Byte) (n : Nat) :
    Memory.wf (ramCells init n) = true ∧ ∀ c ∈ ramCells init n, c.1 < n := by
  induction n with
  | zero => exact ⟨rfl, by simp [ramCells]⟩
  | succ n ih =>
    refine ⟨wf_write ih.1, fun c hc => ?_⟩
    rcases mem_write hc with hc | hc
    · exact (ih.2 c hc).trans (Nat.lt_succ_self n)
    · omega

/-- Redrawing RAM keeps the canonical form. -/
theorem wf_redrawRam (d n : Nat) (h : Memory.wf m = true) : Memory.wf (redrawRam d n m) = true := by
  induction n with
  | zero => exact h
  | succ n ih => exact wf_write ih

/-- The memory invariant, spelled out. -/
theorem memOk_iff {s : State} : s.memOk = true ↔
    Memory.wf s.mem = true ∧ ∀ c ∈ s.mem, validKey s.prgSize c.1 = true := by
  simp [State.memOk]

/-- A valid key, spelled out. -/
theorem validKey_iff {size : PrgSize} : validKey size k = true ↔
    k < 0x800 ∨ (0x8000 ≤ k ∧ k < 0x8000 + romLength size) := by
  simp [validKey]

/-- The memory that `load` builds is canonical and lists physical bytes only. -/
theorem loadImage_ok {program : List Byte} (h : Memory.wf m = true) (hp : program.length ≤ 0x8000) :
    Memory.wf (loadImage m program) = true ∧
      ∀ c ∈ loadImage m program, validKey .bank32K c.1 = true := by
  refine ⟨wf_write (wf_write (wf_writeList _ (wf_filter _ h))), fun c hc => validKey_iff.2 ?_⟩
  rcases mem_write hc with hc | hc
  · rcases mem_write hc with hc | hc
    · rcases mem_writeList _ hc with hc | hc
      · simp [ramPart] at hc; exact .inl hc.2
      · exact .inr ⟨hc.1, by simp [romLength]; omega⟩
    · exact .inr (by simp [hc, romLength])
  · exact .inr (by simp [hc, romLength])

end Sys2Proof.Machine
end

