-- ==== Sys2Proof/Laws/State.lean ====
section
/-! SUPPORT. What each state update does to each field, by rfl, so that no proof unfolds an update. -/

namespace Sys2Proof.Machine

variable (s : State)

@[simp] theorem setA_a (v : Byte) : (s.setA v).a = v := rfl
@[simp] theorem setA_x (v : Byte) : (s.setA v).x = s.x := rfl
@[simp] theorem setA_y (v : Byte) : (s.setA v).y = s.y := rfl
@[simp] theorem setA_sp (v : Byte) : (s.setA v).sp = s.sp := rfl
@[simp] theorem setA_p (v : Byte) : (s.setA v).p = s.p := rfl
@[simp] theorem setA_pc (v : Byte) : (s.setA v).pc = s.pc := rfl
@[simp] theorem setA_run (v : Byte) : (s.setA v).run = s.run := rfl
@[simp] theorem setA_mem (v : Byte) : (s.setA v).mem = s.mem := rfl
@[simp] theorem setA_prgSize (v : Byte) : (s.setA v).prgSize = s.prgSize := rfl
@[simp] theorem setA_policy (v : Byte) : (s.setA v).policy = s.policy := rfl
@[simp] theorem setA_resetDone (v : Byte) : (s.setA v).resetDone = s.resetDone := rfl
@[simp] theorem setA_draws (v : Byte) : (s.setA v).draws = s.draws := rfl

@[simp] theorem setX_a (v : Byte) : (s.setX v).a = s.a := rfl
@[simp] theorem setX_x (v : Byte) : (s.setX v).x = v := rfl
@[simp] theorem setX_y (v : Byte) : (s.setX v).y = s.y := rfl
@[simp] theorem setX_sp (v : Byte) : (s.setX v).sp = s.sp := rfl
@[simp] theorem setX_p (v : Byte) : (s.setX v).p = s.p := rfl
@[simp] theorem setX_pc (v : Byte) : (s.setX v).pc = s.pc := rfl
@[simp] theorem setX_run (v : Byte) : (s.setX v).run = s.run := rfl
@[simp] theorem setX_mem (v : Byte) : (s.setX v).mem = s.mem := rfl
@[simp] theorem setX_prgSize (v : Byte) : (s.setX v).prgSize = s.prgSize := rfl
@[simp] theorem setX_policy (v : Byte) : (s.setX v).policy = s.policy := rfl
@[simp] theorem setX_resetDone (v : Byte) : (s.setX v).resetDone = s.resetDone := rfl
@[simp] theorem setX_draws (v : Byte) : (s.setX v).draws = s.draws := rfl

@[simp] theorem setY_a (v : Byte) : (s.setY v).a = s.a := rfl
@[simp] theorem setY_x (v : Byte) : (s.setY v).x = s.x := rfl
@[simp] theorem setY_y (v : Byte) : (s.setY v).y = v := rfl
@[simp] theorem setY_sp (v : Byte) : (s.setY v).sp = s.sp := rfl
@[simp] theorem setY_p (v : Byte) : (s.setY v).p = s.p := rfl
@[simp] theorem setY_pc (v : Byte) : (s.setY v).pc = s.pc := rfl
@[simp] theorem setY_run (v : Byte) : (s.setY v).run = s.run := rfl
@[simp] theorem setY_mem (v : Byte) : (s.setY v).mem = s.mem := rfl
@[simp] theorem setY_prgSize (v : Byte) : (s.setY v).prgSize = s.prgSize := rfl
@[simp] theorem setY_policy (v : Byte) : (s.setY v).policy = s.policy := rfl
@[simp] theorem setY_resetDone (v : Byte) : (s.setY v).resetDone = s.resetDone := rfl
@[simp] theorem setY_draws (v : Byte) : (s.setY v).draws = s.draws := rfl

@[simp] theorem setSP_a (v : Byte) : (s.setSP v).a = s.a := rfl
@[simp] theorem setSP_x (v : Byte) : (s.setSP v).x = s.x := rfl
@[simp] theorem setSP_y (v : Byte) : (s.setSP v).y = s.y := rfl
@[simp] theorem setSP_sp (v : Byte) : (s.setSP v).sp = v := rfl
@[simp] theorem setSP_p (v : Byte) : (s.setSP v).p = s.p := rfl
@[simp] theorem setSP_pc (v : Byte) : (s.setSP v).pc = s.pc := rfl
@[simp] theorem setSP_run (v : Byte) : (s.setSP v).run = s.run := rfl
@[simp] theorem setSP_mem (v : Byte) : (s.setSP v).mem = s.mem := rfl
@[simp] theorem setSP_prgSize (v : Byte) : (s.setSP v).prgSize = s.prgSize := rfl
@[simp] theorem setSP_policy (v : Byte) : (s.setSP v).policy = s.policy := rfl
@[simp] theorem setSP_resetDone (v : Byte) : (s.setSP v).resetDone = s.resetDone := rfl
@[simp] theorem setSP_draws (v : Byte) : (s.setSP v).draws = s.draws := rfl

@[simp] theorem setP_a (v : Byte) : (s.setP v).a = s.a := rfl
@[simp] theorem setP_x (v : Byte) : (s.setP v).x = s.x := rfl
@[simp] theorem setP_y (v : Byte) : (s.setP v).y = s.y := rfl
@[simp] theorem setP_sp (v : Byte) : (s.setP v).sp = s.sp := rfl
@[simp] theorem setP_p (v : Byte) : (s.setP v).p = v := rfl
@[simp] theorem setP_pc (v : Byte) : (s.setP v).pc = s.pc := rfl
@[simp] theorem setP_run (v : Byte) : (s.setP v).run = s.run := rfl
@[simp] theorem setP_mem (v : Byte) : (s.setP v).mem = s.mem := rfl
@[simp] theorem setP_prgSize (v : Byte) : (s.setP v).prgSize = s.prgSize := rfl
@[simp] theorem setP_policy (v : Byte) : (s.setP v).policy = s.policy := rfl
@[simp] theorem setP_resetDone (v : Byte) : (s.setP v).resetDone = s.resetDone := rfl
@[simp] theorem setP_draws (v : Byte) : (s.setP v).draws = s.draws := rfl

@[simp] theorem setPC_a (v : Addr) : (s.setPC v).a = s.a := rfl
@[simp] theorem setPC_x (v : Addr) : (s.setPC v).x = s.x := rfl
@[simp] theorem setPC_y (v : Addr) : (s.setPC v).y = s.y := rfl
@[simp] theorem setPC_sp (v : Addr) : (s.setPC v).sp = s.sp := rfl
@[simp] theorem setPC_p (v : Addr) : (s.setPC v).p = s.p := rfl
@[simp] theorem setPC_pc (v : Addr) : (s.setPC v).pc = v := rfl
@[simp] theorem setPC_run (v : Addr) : (s.setPC v).run = s.run := rfl
@[simp] theorem setPC_mem (v : Addr) : (s.setPC v).mem = s.mem := rfl
@[simp] theorem setPC_prgSize (v : Addr) : (s.setPC v).prgSize = s.prgSize := rfl
@[simp] theorem setPC_policy (v : Addr) : (s.setPC v).policy = s.policy := rfl
@[simp] theorem setPC_resetDone (v : Addr) : (s.setPC v).resetDone = s.resetDone := rfl
@[simp] theorem setPC_draws (v : Addr) : (s.setPC v).draws = s.draws := rfl

@[simp] theorem setRun_a (v : RunState) : (s.setRun v).a = s.a := rfl
@[simp] theorem setRun_x (v : RunState) : (s.setRun v).x = s.x := rfl
@[simp] theorem setRun_y (v : RunState) : (s.setRun v).y = s.y := rfl
@[simp] theorem setRun_sp (v : RunState) : (s.setRun v).sp = s.sp := rfl
@[simp] theorem setRun_p (v : RunState) : (s.setRun v).p = s.p := rfl
@[simp] theorem setRun_pc (v : RunState) : (s.setRun v).pc = s.pc := rfl
@[simp] theorem setRun_run (v : RunState) : (s.setRun v).run = v := rfl
@[simp] theorem setRun_mem (v : RunState) : (s.setRun v).mem = s.mem := rfl
@[simp] theorem setRun_prgSize (v : RunState) : (s.setRun v).prgSize = s.prgSize := rfl
@[simp] theorem setRun_policy (v : RunState) : (s.setRun v).policy = s.policy := rfl
@[simp] theorem setRun_resetDone (v : RunState) : (s.setRun v).resetDone = s.resetDone := rfl
@[simp] theorem setRun_draws (v : RunState) : (s.setRun v).draws = s.draws := rfl

@[simp] theorem setFlag_a (f : Flag) (b : Bool) : (s.setFlag f b).a = s.a := rfl
@[simp] theorem setFlag_x (f : Flag) (b : Bool) : (s.setFlag f b).x = s.x := rfl
@[simp] theorem setFlag_y (f : Flag) (b : Bool) : (s.setFlag f b).y = s.y := rfl
@[simp] theorem setFlag_sp (f : Flag) (b : Bool) : (s.setFlag f b).sp = s.sp := rfl
@[simp] theorem setFlag_pc (f : Flag) (b : Bool) : (s.setFlag f b).pc = s.pc := rfl
@[simp] theorem setFlag_run (f : Flag) (b : Bool) : (s.setFlag f b).run = s.run := rfl
@[simp] theorem setFlag_mem (f : Flag) (b : Bool) : (s.setFlag f b).mem = s.mem := rfl
@[simp] theorem setFlag_prgSize (f : Flag) (b : Bool) : (s.setFlag f b).prgSize = s.prgSize := rfl
@[simp] theorem setFlag_policy (f : Flag) (b : Bool) : (s.setFlag f b).policy = s.policy := rfl
@[simp] theorem setFlag_resetDone (f : Flag) (b : Bool) : (s.setFlag f b).resetDone = s.resetDone := rfl
@[simp] theorem setFlag_draws (f : Flag) (b : Bool) : (s.setFlag f b).draws = s.draws := rfl
@[simp] theorem setFlag_p (f : Flag) (b : Bool) : (s.setFlag f b).p = putFlag s.p f b := rfl

@[simp] theorem setZN_a (v : Byte) : (s.setZN v).a = s.a := rfl
@[simp] theorem setZN_x (v : Byte) : (s.setZN v).x = s.x := rfl
@[simp] theorem setZN_y (v : Byte) : (s.setZN v).y = s.y := rfl
@[simp] theorem setZN_sp (v : Byte) : (s.setZN v).sp = s.sp := rfl
@[simp] theorem setZN_pc (v : Byte) : (s.setZN v).pc = s.pc := rfl
@[simp] theorem setZN_run (v : Byte) : (s.setZN v).run = s.run := rfl
@[simp] theorem setZN_mem (v : Byte) : (s.setZN v).mem = s.mem := rfl
@[simp] theorem setZN_prgSize (v : Byte) : (s.setZN v).prgSize = s.prgSize := rfl
@[simp] theorem setZN_policy (v : Byte) : (s.setZN v).policy = s.policy := rfl
@[simp] theorem setZN_resetDone (v : Byte) : (s.setZN v).resetDone = s.resetDone := rfl
@[simp] theorem setZN_draws (v : Byte) : (s.setZN v).draws = s.draws := rfl

@[simp] theorem addPath_x (m : Byte) : (s.addPath m).x = s.x := by simp [State.addPath]
@[simp] theorem addPath_y (m : Byte) : (s.addPath m).y = s.y := by simp [State.addPath]
@[simp] theorem addPath_sp (m : Byte) : (s.addPath m).sp = s.sp := by simp [State.addPath]
@[simp] theorem addPath_pc (m : Byte) : (s.addPath m).pc = s.pc := by simp [State.addPath]
@[simp] theorem addPath_run (m : Byte) : (s.addPath m).run = s.run := by simp [State.addPath]
@[simp] theorem addPath_mem (m : Byte) : (s.addPath m).mem = s.mem := by simp [State.addPath]
@[simp] theorem addPath_prgSize (m : Byte) : (s.addPath m).prgSize = s.prgSize := by simp [State.addPath]
@[simp] theorem addPath_policy (m : Byte) : (s.addPath m).policy = s.policy := by simp [State.addPath]
@[simp] theorem addPath_resetDone (m : Byte) : (s.addPath m).resetDone = s.resetDone := by simp [State.addPath]
@[simp] theorem addPath_draws (m : Byte) : (s.addPath m).draws = s.draws := by simp [State.addPath]
@[simp] theorem addPath_a (m : Byte) : (s.addPath m).a = addByte s.a m (s.flag .C) := by simp [State.addPath]

@[simp] theorem comparePath_a (r m : Byte) : (s.comparePath r m).a = s.a := rfl
@[simp] theorem comparePath_x (r m : Byte) : (s.comparePath r m).x = s.x := rfl
@[simp] theorem comparePath_y (r m : Byte) : (s.comparePath r m).y = s.y := rfl
@[simp] theorem comparePath_sp (r m : Byte) : (s.comparePath r m).sp = s.sp := rfl
@[simp] theorem comparePath_pc (r m : Byte) : (s.comparePath r m).pc = s.pc := rfl
@[simp] theorem comparePath_run (r m : Byte) : (s.comparePath r m).run = s.run := rfl
@[simp] theorem comparePath_mem (r m : Byte) : (s.comparePath r m).mem = s.mem := rfl
@[simp] theorem comparePath_prgSize (r m : Byte) : (s.comparePath r m).prgSize = s.prgSize := rfl
@[simp] theorem comparePath_policy (r m : Byte) : (s.comparePath r m).policy = s.policy := rfl
@[simp] theorem comparePath_resetDone (r m : Byte) : (s.comparePath r m).resetDone = s.resetDone := rfl
@[simp] theorem comparePath_draws (r m : Byte) : (s.comparePath r m).draws = s.draws := rfl

@[simp] theorem halt_a (r : HaltReason) : (s.halt r).a = s.a := rfl
@[simp] theorem halt_x (r : HaltReason) : (s.halt r).x = s.x := rfl
@[simp] theorem halt_y (r : HaltReason) : (s.halt r).y = s.y := rfl
@[simp] theorem halt_sp (r : HaltReason) : (s.halt r).sp = s.sp := rfl
@[simp] theorem halt_p (r : HaltReason) : (s.halt r).p = s.p := rfl
@[simp] theorem halt_pc (r : HaltReason) : (s.halt r).pc = s.pc := rfl
@[simp] theorem halt_mem (r : HaltReason) : (s.halt r).mem = s.mem := rfl
@[simp] theorem halt_prgSize (r : HaltReason) : (s.halt r).prgSize = s.prgSize := rfl
@[simp] theorem halt_policy (r : HaltReason) : (s.halt r).policy = s.policy := rfl
@[simp] theorem halt_resetDone (r : HaltReason) : (s.halt r).resetDone = s.resetDone := rfl
@[simp] theorem halt_draws (r : HaltReason) : (s.halt r).draws = s.draws := rfl
@[simp] theorem halt_run (r : HaltReason) : (s.halt r).run = .halted r := rfl

@[simp] theorem poke_a (ad : Addr) (v : Byte) : (s.poke ad v).a = s.a := by
  unfold State.poke; split <;> rfl
@[simp] theorem poke_x (ad : Addr) (v : Byte) : (s.poke ad v).x = s.x := by
  unfold State.poke; split <;> rfl
@[simp] theorem poke_y (ad : Addr) (v : Byte) : (s.poke ad v).y = s.y := by
  unfold State.poke; split <;> rfl
@[simp] theorem poke_sp (ad : Addr) (v : Byte) : (s.poke ad v).sp = s.sp := by
  unfold State.poke; split <;> rfl
@[simp] theorem poke_p (ad : Addr) (v : Byte) : (s.poke ad v).p = s.p := by
  unfold State.poke; split <;> rfl
@[simp] theorem poke_pc (ad : Addr) (v : Byte) : (s.poke ad v).pc = s.pc := by
  unfold State.poke; split <;> rfl
@[simp] theorem poke_run (ad : Addr) (v : Byte) : (s.poke ad v).run = s.run := by
  unfold State.poke; split <;> rfl
@[simp] theorem poke_prgSize (ad : Addr) (v : Byte) : (s.poke ad v).prgSize = s.prgSize := by
  unfold State.poke; split <;> rfl
@[simp] theorem poke_policy (ad : Addr) (v : Byte) : (s.poke ad v).policy = s.policy := by
  unfold State.poke; split <;> rfl
@[simp] theorem poke_resetDone (ad : Addr) (v : Byte) : (s.poke ad v).resetDone = s.resetDone := by
  unfold State.poke; split <;> rfl
@[simp] theorem poke_draws (ad : Addr) (v : Byte) : (s.poke ad v).draws = s.draws := by
  unfold State.poke; split <;> rfl

@[simp] theorem push_a (b : Byte) : (s.push b).a = s.a := by simp [State.push]
@[simp] theorem push_x (b : Byte) : (s.push b).x = s.x := by simp [State.push]
@[simp] theorem push_y (b : Byte) : (s.push b).y = s.y := by simp [State.push]
@[simp] theorem push_p (b : Byte) : (s.push b).p = s.p := by simp [State.push]
@[simp] theorem push_pc (b : Byte) : (s.push b).pc = s.pc := by simp [State.push]
@[simp] theorem push_run (b : Byte) : (s.push b).run = s.run := by simp [State.push]
@[simp] theorem push_prgSize (b : Byte) : (s.push b).prgSize = s.prgSize := by simp [State.push]
@[simp] theorem push_policy (b : Byte) : (s.push b).policy = s.policy := by simp [State.push]
@[simp] theorem push_resetDone (b : Byte) : (s.push b).resetDone = s.resetDone := by simp [State.push]
@[simp] theorem push_draws (b : Byte) : (s.push b).draws = s.draws := by simp [State.push]
@[simp] theorem push_sp (b : Byte) : (s.push b).sp = s.sp - 1 := rfl
@[simp] theorem push_mem (b : Byte) : (s.push b).mem = (s.poke (stackAddr s.sp) b).mem := rfl

@[simp] theorem pulled_a : s.pulled.a = s.a := rfl
@[simp] theorem pulled_x : s.pulled.x = s.x := rfl
@[simp] theorem pulled_y : s.pulled.y = s.y := rfl
@[simp] theorem pulled_sp : s.pulled.sp = s.sp + 1 := rfl
@[simp] theorem pulled_p : s.pulled.p = s.p := rfl
@[simp] theorem pulled_pc : s.pulled.pc = s.pc := rfl
@[simp] theorem pulled_run : s.pulled.run = s.run := rfl
@[simp] theorem pulled_mem : s.pulled.mem = s.mem := rfl
@[simp] theorem pulled_prgSize : s.pulled.prgSize = s.prgSize := rfl
@[simp] theorem pulled_policy : s.pulled.policy = s.policy := rfl
@[simp] theorem pulled_resetDone : s.pulled.resetDone = s.resetDone := rfl
@[simp] theorem pulled_draws : s.pulled.draws = s.draws := rfl

@[simp] theorem advance_a (snap : Addr) (len : Nat) : (s.advance snap len).a = s.a := by
  unfold State.advance; split <;> rfl
@[simp] theorem advance_x (snap : Addr) (len : Nat) : (s.advance snap len).x = s.x := by
  unfold State.advance; split <;> rfl
@[simp] theorem advance_y (snap : Addr) (len : Nat) : (s.advance snap len).y = s.y := by
  unfold State.advance; split <;> rfl
@[simp] theorem advance_sp (snap : Addr) (len : Nat) : (s.advance snap len).sp = s.sp := by
  unfold State.advance; split <;> rfl
@[simp] theorem advance_p (snap : Addr) (len : Nat) : (s.advance snap len).p = s.p := by
  unfold State.advance; split <;> rfl
@[simp] theorem advance_mem (snap : Addr) (len : Nat) : (s.advance snap len).mem = s.mem := by
  unfold State.advance; split <;> rfl
@[simp] theorem advance_prgSize (snap : Addr) (len : Nat) : (s.advance snap len).prgSize = s.prgSize := by
  unfold State.advance; split <;> rfl
@[simp] theorem advance_policy (snap : Addr) (len : Nat) : (s.advance snap len).policy = s.policy := by
  unfold State.advance; split <;> rfl
@[simp] theorem advance_resetDone (snap : Addr) (len : Nat) : (s.advance snap len).resetDone = s.resetDone := by
  unfold State.advance; split <;> rfl
@[simp] theorem advance_draws (snap : Addr) (len : Nat) : (s.advance snap len).draws = s.draws := by
  unfold State.advance; split <;> rfl
@[simp] theorem advance_run (snap : Addr) (len : Nat) : (s.advance snap len).run = s.run := by
  unfold State.advance; split <;> rfl

/-- The flag read of a state is the flag read of its status byte. -/
theorem flag_eq (f : Flag) : s.flag f = getFlag s.p f := rfl

/-- A flag's mask has that flag's bit alone (R25). -/
theorem mask_getLsbD (f g : Flag) : f.mask.getLsbD g.bit = decide (g = f) := by
  cases f <;> cases g <;> rfl

theorem bit_lt (f : Flag) : f.bit < 8 := by cases f <;> decide

@[simp] theorem getFlag_putFlag (p : Byte) (f g : Flag) (b : Bool) :
    getFlag (putFlag p f b) g = if g = f then b else getFlag p g := by
  have hm := mask_getLsbD f g
  have hb := bit_lt g
  unfold getFlag putFlag
  cases b <;> by_cases h : g = f <;>
    simp only [h, if_true, if_false, Bool.false_eq_true, BitVec.getLsbD_or, BitVec.getLsbD_and, BitVec.getLsbD_not, hm] <;>
    simp_all

/-- A flag write changes that flag alone. -/
@[simp] theorem setFlag_flag (f g : Flag) (b : Bool) :
    (s.setFlag f b).flag g = if g = f then b else s.flag g := getFlag_putFlag s.p f g b

/-- SetZN sets Z and N from the value and keeps every other flag (R122). -/
@[simp] theorem setZN_flag (v : Byte) (g : Flag) :
    (s.setZN v).flag g = if g = .N then v.getLsbD 7 else if g = .Z then v == 0 else s.flag g := by
  simp [State.setZN]

/-- The flags of the add path (R123). -/
theorem addPath_flag (m : Byte) (g : Flag) : (s.addPath m).flag g =
    match g with
    | .C => addCarry s.a m (s.flag .C)
    | .V => addOverflow s.a m (s.flag .C)
    | .Z => addByte s.a m (s.flag .C) == 0
    | .N => (addByte s.a m (s.flag .C)).getLsbD 7
    | g => s.flag g := by
  have h (t : State) (v : Byte) : (t.setA v).flag g = t.flag g := rfl
  cases g <;> simp [State.addPath, h]

/-- The flags of the compare path (R124). -/
theorem comparePath_flag (r m : Byte) (g : Flag) : (s.comparePath r m).flag g =
    match g with
    | .C => decide (m.toNat ≤ r.toNat)
    | .Z => r == m
    | .N => (r - m).getLsbD 7
    | g => s.flag g := by
  cases g <;> simp [State.comparePath]

end Sys2Proof.Machine
end

