-- ==== Sys2Proof/Laws/Bus.lean ====
section
/-! SUPPORT. What the bus, the writes and the stack primitives can do: one lemma each, cited instead of
unfolding them. -/

namespace Sys2Proof.Machine

variable {s t : State} {a b : Addr} {v : Byte} {op : Byte}

/-- The mask of R58 is the remainder mod 2048. -/
theorem ramKey_eq : ramKey a = a.toNat % 0x800 := by
  have h : (0x07FF : Addr).toNat = 2 ^ 11 - 1 := rfl
  rw [ramKey, BitVec.toNat_and, h, Nat.and_two_pow_sub_one_eq_mod]

theorem ramKey_lt : ramKey a < 0x800 := by rw [ramKey_eq]; omega

theorem inRam_iff : inRam a = true ↔ a.toNat < 0x2000 := by simp [inRam]
theorem inRom_iff : inRom a = true ↔ 0x8000 ≤ a.toNat := by simp [inRom]

/-- An address of the RAM window is no ROM address. -/
theorem inRom_of_inRam (h : inRam a = true) : inRom a = false := by
  rw [inRam_iff] at h
  simp [inRom]; omega

theorem backing_ram (size : PrgSize) (h : inRam a = true) : backing size a = some (ramKey a) := by
  simp [backing, h]

theorem backing_rom (size : PrgSize) (h : inRom a = true) :
    backing size a = some (0x8000 + romOffset size a) := by
  have : inRam a = false := by
    cases hr : inRam a
    · rfl
    · exact absurd (inRom_of_inRam hr) (by simp [h])
  simp [backing, h, this]

theorem backing_none (size : PrgSize) (h : inRam a = false) (h' : inRom a = false) :
    backing size a = none := by simp [backing, h, h']

theorem romOffset_lt (size : PrgSize) (a : Addr) : romOffset size a < romLength size := by
  have := a.isLt
  have : 0 < 0x4000 := by decide
  cases size
  · exact Nat.mod_lt _ this
  · show a.toNat - 0x8000 < 0x8000
    omega

/-- Every physical byte an address reaches has a valid key. -/
theorem backing_valid {size : PrgSize} {k : Nat} (h : backing size a = some k) :
    validKey size k = true := by
  have := romOffset_lt size a
  have := @ramKey_lt a
  rw [validKey_iff]
  unfold backing at h
  split at h
  · injection h with h; omega
  · split at h
    · injection h with h; omega
    · exact absurd h (by simp)

/-- Reading depends on the memory and the size of the ROM image alone. -/
theorem readByte_congr (hm : t.mem = s.mem) (hs : t.prgSize = s.prgSize) (a : Addr) :
    t.readByte a = s.readByte a := by simp [State.readByte, hm, hs]

/-- Reading after a byte write in any region: the written RAM byte through every address that reaches
it, and no other byte (R54, R58). -/
theorem readByte_poke (h : Memory.wf s.mem = true) (a b : Addr) (v : Byte) :
    (s.poke a v).readByte b =
      if inRam a = true ∧ inRam b = true ∧ ramKey b = ramKey a then v else s.readByte b := by
  have hk := @ramKey_lt a
  unfold State.poke
  by_cases ha : inRam a = true
  · simp only [ha, if_true, true_and]
    unfold State.readByte
    by_cases hb : inRam b = true
    · simp only [backing_ram _ hb, read_write h, hb, true_and]
    · have hb : inRam b = false := by simpa using hb
      cases hb' : inRom b
      · simp [backing_none _ hb hb', hb]
      · simp only [backing_rom _ hb', read_write h]
        rw [if_neg (by omega)]
        simp [hb]
  · simp [ha]

/-- A byte write keeps the memory invariant. -/
theorem memOk_poke (h : s.memOk = true) : (s.poke a v).memOk = true := by
  obtain ⟨hw, hv⟩ := memOk_iff.1 h
  unfold State.poke
  split
  · refine memOk_iff.2 ⟨wf_write hw, fun c hc => ?_⟩
    rcases mem_write hc with hc | hc
    · exact hv c hc
    · exact validKey_iff.2 (.inl (hc ▸ ramKey_lt))
  · exact h

/-- A byte write leaves every ROM byte alone (R60). -/
theorem rom_poke (h : Memory.wf s.mem = true) (hb : inRom b = true) :
    (s.poke a v).readByte b = s.readByte b := by
  rw [readByte_poke h, if_neg]
  rintro ⟨-, hb', -⟩
  exact absurd (inRom_of_inRam hb') (by simp [hb])

/-- `writeByte` by region: a fault with its record in ROM, else the poke (R54, R60). -/
theorem writeByte_cases (op : Byte) (a : Addr) (v : Byte) (s : State) :
    (inRom a = true ∧ writeByte op a v s = .fault (.romWrite op (s.pc - 1) a)) ∨
    (inRom a = false ∧ writeByte op a v s = .next (s.poke a v)) := by
  unfold writeByte raiseRomWrite
  cases inRom a <;> simp

theorem writeByte_rom (h : inRom a = true) :
    writeByte op a v s = .fault (.romWrite op (s.pc - 1) a) := by simp [writeByte, raiseRomWrite, h]

theorem writeByte_next (h : inRom a = false) : writeByte op a v s = .next (s.poke a v) := by
  simp [writeByte, h]

/-- `writeBack` by operand: the accumulator, a fault, or a poke (R121). -/
theorem writeBack_cases (op : Byte) (o : Operand) (v : Byte) (s : State) :
    (resolve o s = none ∧ writeBack op o v s = .next (s.setA v)) ∨
    (∃ ea, resolve o s = some ea ∧ inRom ea = true ∧
      writeBack op o v s = .fault (.romWrite op (s.pc - 1) ea)) ∨
    (∃ ea, resolve o s = some ea ∧ inRom ea = false ∧ writeBack op o v s = .next (s.poke ea v)) := by
  unfold writeBack
  cases h : resolve o s with
  | none => exact .inl ⟨rfl, rfl⟩
  | some ea =>
    rcases writeByte_cases op ea v s with ⟨hr, hw⟩ | ⟨hr, hw⟩
    · exact .inr (.inl ⟨ea, rfl, hr, hw⟩)
    · exact .inr (.inr ⟨ea, rfl, hr, hw⟩)

theorem stackAddr_toNat (sp : Byte) : (stackAddr sp).toNat = 0x100 + sp.toNat := by
  have := sp.isLt
  have h : (0x0100 : Addr).toNat = 0x100 := rfl
  rw [stackAddr, zext16, BitVec.toNat_add, BitVec.toNat_setWidth, h]
  omega

/-- The stack page lies in RAM (R63). -/
theorem stackAddr_inRam (sp : Byte) : inRam (stackAddr sp) = true := by
  rw [inRam_iff, stackAddr_toNat]; have := sp.isLt; omega

theorem ramKey_stackAddr (sp : Byte) : ramKey (stackAddr sp) = 0x100 + sp.toNat := by
  rw [ramKey_eq, stackAddr_toNat]; have := sp.isLt; omega

/-- Reading after a push (R125). -/
theorem readByte_push (h : Memory.wf s.mem = true) (b : Byte) (a : Addr) :
    (s.push b).readByte a =
      if inRam a = true ∧ ramKey a = 0x100 + s.sp.toNat then b else s.readByte a := by
  have hc : (s.push b).readByte a = (s.poke (stackAddr s.sp) b).readByte a := readByte_congr rfl rfl a
  rw [hc, readByte_poke h, ramKey_stackAddr]
  simp [stackAddr_inRam]

theorem memOk_push (h : s.memOk = true) (b : Byte) : (s.push b).memOk = true :=
  memOk_poke (a := stackAddr s.sp) (v := b) h

/-- The memory after a poke is canonical. -/
theorem wf_poke (h : Memory.wf s.mem = true) : Memory.wf (s.poke a v).mem = true := by
  unfold State.poke; split
  · exact wf_write h
  · exact h

theorem wf_push (h : Memory.wf s.mem = true) (b : Byte) : Memory.wf (s.push b).mem = true := wf_poke h

/-- The three ways `Result.andThen` ends. -/
theorem andThen_next {r : Result} {f : State → State} :
    r.andThen f = .next t ↔ ∃ u, r = .next u ∧ t = f u := by
  cases r <;> simp [Result.andThen, eq_comm]

theorem andThen_fault {r : Result} {f : State → State} {e : Fault} :
    r.andThen f = .fault e ↔ r = .fault e := by cases r <;> simp [Result.andThen]

theorem andThen_refused {r : Result} {f : State → State} {e : Refusal} :
    r.andThen f = .refused e ↔ r = .refused e := by cases r <;> simp [Result.andThen]

end Sys2Proof.Machine
end

