-- ==== Sys2Proof/Laws/PerInstr.lean ====
section
/-! SUPPORT. Per instruction: the opcode table's row of its opcode byte gives its mode and its length (R82,
R88). -/

namespace Sys2Proof.Laws.OpcodeRow

/-- The table's row of the opcode byte of `i` has the mode and the length of `i`. -/
def Statement (i : Instr) : Prop :=
  (opEntry i.opcode).map (fun e => (e.mode, e.length)) = some (i.operand.mode, i.length)

theorem oraIndirectX (zp : Byte) : Statement (.oraIndirectX zp) := rfl
theorem sloIndirectX (zp : Byte) : Statement (.sloIndirectX zp) := rfl
theorem nopZeroPage04 (zp : Byte) : Statement (.nopZeroPage04 zp) := rfl
theorem oraZeroPage (zp : Byte) : Statement (.oraZeroPage zp) := rfl
theorem aslZeroPage (zp : Byte) : Statement (.aslZeroPage zp) := rfl
theorem sloZeroPage (zp : Byte) : Statement (.sloZeroPage zp) := rfl
theorem oraImmediate (imm : Byte) : Statement (.oraImmediate imm) := rfl
theorem ancImmediate0B (imm : Byte) : Statement (.ancImmediate0B imm) := rfl
theorem nopAbsolute (addr : Addr) : Statement (.nopAbsolute addr) := rfl
theorem oraAbsolute (addr : Addr) : Statement (.oraAbsolute addr) := rfl
theorem aslAbsolute (addr : Addr) : Statement (.aslAbsolute addr) := rfl
theorem sloAbsolute (addr : Addr) : Statement (.sloAbsolute addr) := rfl
theorem bpl (off : Byte) : Statement (.bpl off) := rfl
theorem oraIndirectY (zp : Byte) : Statement (.oraIndirectY zp) := rfl
theorem sloIndirectY (zp : Byte) : Statement (.sloIndirectY zp) := rfl
theorem nopZeroPageX14 (zp : Byte) : Statement (.nopZeroPageX14 zp) := rfl
theorem oraZeroPageX (zp : Byte) : Statement (.oraZeroPageX zp) := rfl
theorem aslZeroPageX (zp : Byte) : Statement (.aslZeroPageX zp) := rfl
theorem sloZeroPageX (zp : Byte) : Statement (.sloZeroPageX zp) := rfl
theorem oraAbsoluteY (addr : Addr) : Statement (.oraAbsoluteY addr) := rfl
theorem sloAbsoluteY (addr : Addr) : Statement (.sloAbsoluteY addr) := rfl
theorem nopAbsoluteX1C (addr : Addr) : Statement (.nopAbsoluteX1C addr) := rfl
theorem oraAbsoluteX (addr : Addr) : Statement (.oraAbsoluteX addr) := rfl
theorem aslAbsoluteX (addr : Addr) : Statement (.aslAbsoluteX addr) := rfl
theorem sloAbsoluteX (addr : Addr) : Statement (.sloAbsoluteX addr) := rfl
theorem jsrAbsolute (addr : Addr) : Statement (.jsrAbsolute addr) := rfl
theorem andIndirectX (zp : Byte) : Statement (.andIndirectX zp) := rfl
theorem rlaIndirectX (zp : Byte) : Statement (.rlaIndirectX zp) := rfl
theorem bitZeroPage (zp : Byte) : Statement (.bitZeroPage zp) := rfl
theorem andZeroPage (zp : Byte) : Statement (.andZeroPage zp) := rfl
theorem rolZeroPage (zp : Byte) : Statement (.rolZeroPage zp) := rfl
theorem rlaZeroPage (zp : Byte) : Statement (.rlaZeroPage zp) := rfl
theorem andImmediate (imm : Byte) : Statement (.andImmediate imm) := rfl
theorem ancImmediate2B (imm : Byte) : Statement (.ancImmediate2B imm) := rfl
theorem bitAbsolute (addr : Addr) : Statement (.bitAbsolute addr) := rfl
theorem andAbsolute (addr : Addr) : Statement (.andAbsolute addr) := rfl
theorem rolAbsolute (addr : Addr) : Statement (.rolAbsolute addr) := rfl
theorem rlaAbsolute (addr : Addr) : Statement (.rlaAbsolute addr) := rfl
theorem bmi (off : Byte) : Statement (.bmi off) := rfl
theorem andIndirectY (zp : Byte) : Statement (.andIndirectY zp) := rfl
theorem rlaIndirectY (zp : Byte) : Statement (.rlaIndirectY zp) := rfl
theorem nopZeroPageX34 (zp : Byte) : Statement (.nopZeroPageX34 zp) := rfl
theorem andZeroPageX (zp : Byte) : Statement (.andZeroPageX zp) := rfl
theorem rolZeroPageX (zp : Byte) : Statement (.rolZeroPageX zp) := rfl
theorem rlaZeroPageX (zp : Byte) : Statement (.rlaZeroPageX zp) := rfl
theorem andAbsoluteY (addr : Addr) : Statement (.andAbsoluteY addr) := rfl
theorem rlaAbsoluteY (addr : Addr) : Statement (.rlaAbsoluteY addr) := rfl
theorem nopAbsoluteX3C (addr : Addr) : Statement (.nopAbsoluteX3C addr) := rfl
theorem andAbsoluteX (addr : Addr) : Statement (.andAbsoluteX addr) := rfl
theorem rolAbsoluteX (addr : Addr) : Statement (.rolAbsoluteX addr) := rfl
theorem rlaAbsoluteX (addr : Addr) : Statement (.rlaAbsoluteX addr) := rfl
theorem eorIndirectX (zp : Byte) : Statement (.eorIndirectX zp) := rfl
theorem sreIndirectX (zp : Byte) : Statement (.sreIndirectX zp) := rfl
theorem nopZeroPage44 (zp : Byte) : Statement (.nopZeroPage44 zp) := rfl
theorem eorZeroPage (zp : Byte) : Statement (.eorZeroPage zp) := rfl
theorem lsrZeroPage (zp : Byte) : Statement (.lsrZeroPage zp) := rfl
theorem sreZeroPage (zp : Byte) : Statement (.sreZeroPage zp) := rfl
theorem eorImmediate (imm : Byte) : Statement (.eorImmediate imm) := rfl
theorem alrImmediate (imm : Byte) : Statement (.alrImmediate imm) := rfl
theorem jmpAbsolute (addr : Addr) : Statement (.jmpAbsolute addr) := rfl
theorem eorAbsolute (addr : Addr) : Statement (.eorAbsolute addr) := rfl
theorem lsrAbsolute (addr : Addr) : Statement (.lsrAbsolute addr) := rfl
theorem sreAbsolute (addr : Addr) : Statement (.sreAbsolute addr) := rfl
theorem bvc (off : Byte) : Statement (.bvc off) := rfl
theorem eorIndirectY (zp : Byte) : Statement (.eorIndirectY zp) := rfl
theorem sreIndirectY (zp : Byte) : Statement (.sreIndirectY zp) := rfl
theorem nopZeroPageX54 (zp : Byte) : Statement (.nopZeroPageX54 zp) := rfl
theorem eorZeroPageX (zp : Byte) : Statement (.eorZeroPageX zp) := rfl
theorem lsrZeroPageX (zp : Byte) : Statement (.lsrZeroPageX zp) := rfl
theorem sreZeroPageX (zp : Byte) : Statement (.sreZeroPageX zp) := rfl
theorem eorAbsoluteY (addr : Addr) : Statement (.eorAbsoluteY addr) := rfl
theorem sreAbsoluteY (addr : Addr) : Statement (.sreAbsoluteY addr) := rfl
theorem nopAbsoluteX5C (addr : Addr) : Statement (.nopAbsoluteX5C addr) := rfl
theorem eorAbsoluteX (addr : Addr) : Statement (.eorAbsoluteX addr) := rfl
theorem lsrAbsoluteX (addr : Addr) : Statement (.lsrAbsoluteX addr) := rfl
theorem sreAbsoluteX (addr : Addr) : Statement (.sreAbsoluteX addr) := rfl
theorem adcIndirectX (zp : Byte) : Statement (.adcIndirectX zp) := rfl
theorem rraIndirectX (zp : Byte) : Statement (.rraIndirectX zp) := rfl
theorem nopZeroPage64 (zp : Byte) : Statement (.nopZeroPage64 zp) := rfl
theorem adcZeroPage (zp : Byte) : Statement (.adcZeroPage zp) := rfl
theorem rorZeroPage (zp : Byte) : Statement (.rorZeroPage zp) := rfl
theorem rraZeroPage (zp : Byte) : Statement (.rraZeroPage zp) := rfl
theorem adcImmediate (imm : Byte) : Statement (.adcImmediate imm) := rfl
theorem arrImmediate (imm : Byte) : Statement (.arrImmediate imm) := rfl
theorem jmpIndirect (ptr : Addr) : Statement (.jmpIndirect ptr) := rfl
theorem adcAbsolute (addr : Addr) : Statement (.adcAbsolute addr) := rfl
theorem rorAbsolute (addr : Addr) : Statement (.rorAbsolute addr) := rfl
theorem rraAbsolute (addr : Addr) : Statement (.rraAbsolute addr) := rfl
theorem bvs (off : Byte) : Statement (.bvs off) := rfl
theorem adcIndirectY (zp : Byte) : Statement (.adcIndirectY zp) := rfl
theorem rraIndirectY (zp : Byte) : Statement (.rraIndirectY zp) := rfl
theorem nopZeroPageX74 (zp : Byte) : Statement (.nopZeroPageX74 zp) := rfl
theorem adcZeroPageX (zp : Byte) : Statement (.adcZeroPageX zp) := rfl
theorem rorZeroPageX (zp : Byte) : Statement (.rorZeroPageX zp) := rfl
theorem rraZeroPageX (zp : Byte) : Statement (.rraZeroPageX zp) := rfl
theorem adcAbsoluteY (addr : Addr) : Statement (.adcAbsoluteY addr) := rfl
theorem rraAbsoluteY (addr : Addr) : Statement (.rraAbsoluteY addr) := rfl
theorem nopAbsoluteX7C (addr : Addr) : Statement (.nopAbsoluteX7C addr) := rfl
theorem adcAbsoluteX (addr : Addr) : Statement (.adcAbsoluteX addr) := rfl
theorem rorAbsoluteX (addr : Addr) : Statement (.rorAbsoluteX addr) := rfl
theorem rraAbsoluteX (addr : Addr) : Statement (.rraAbsoluteX addr) := rfl
theorem nopImmediate80 (imm : Byte) : Statement (.nopImmediate80 imm) := rfl
theorem staIndirectX (zp : Byte) : Statement (.staIndirectX zp) := rfl
theorem nopImmediate82 (imm : Byte) : Statement (.nopImmediate82 imm) := rfl
theorem saxIndirectX (zp : Byte) : Statement (.saxIndirectX zp) := rfl
theorem styZeroPage (zp : Byte) : Statement (.styZeroPage zp) := rfl
theorem staZeroPage (zp : Byte) : Statement (.staZeroPage zp) := rfl
theorem stxZeroPage (zp : Byte) : Statement (.stxZeroPage zp) := rfl
theorem saxZeroPage (zp : Byte) : Statement (.saxZeroPage zp) := rfl
theorem nopImmediate89 (imm : Byte) : Statement (.nopImmediate89 imm) := rfl
theorem xaaImmediate (imm : Byte) : Statement (.xaaImmediate imm) := rfl
theorem styAbsolute (addr : Addr) : Statement (.styAbsolute addr) := rfl
theorem staAbsolute (addr : Addr) : Statement (.staAbsolute addr) := rfl
theorem stxAbsolute (addr : Addr) : Statement (.stxAbsolute addr) := rfl
theorem saxAbsolute (addr : Addr) : Statement (.saxAbsolute addr) := rfl
theorem bcc (off : Byte) : Statement (.bcc off) := rfl
theorem staIndirectY (zp : Byte) : Statement (.staIndirectY zp) := rfl
theorem shaIndirectY (zp : Byte) : Statement (.shaIndirectY zp) := rfl
theorem styZeroPageX (zp : Byte) : Statement (.styZeroPageX zp) := rfl
theorem staZeroPageX (zp : Byte) : Statement (.staZeroPageX zp) := rfl
theorem stxZeroPageY (zp : Byte) : Statement (.stxZeroPageY zp) := rfl
theorem saxZeroPageY (zp : Byte) : Statement (.saxZeroPageY zp) := rfl
theorem staAbsoluteY (addr : Addr) : Statement (.staAbsoluteY addr) := rfl
theorem tasAbsoluteY (addr : Addr) : Statement (.tasAbsoluteY addr) := rfl
theorem shyAbsoluteX (addr : Addr) : Statement (.shyAbsoluteX addr) := rfl
theorem staAbsoluteX (addr : Addr) : Statement (.staAbsoluteX addr) := rfl
theorem shxAbsoluteY (addr : Addr) : Statement (.shxAbsoluteY addr) := rfl
theorem shaAbsoluteY (addr : Addr) : Statement (.shaAbsoluteY addr) := rfl
theorem ldyImmediate (imm : Byte) : Statement (.ldyImmediate imm) := rfl
theorem ldaIndirectX (zp : Byte) : Statement (.ldaIndirectX zp) := rfl
theorem ldxImmediate (imm : Byte) : Statement (.ldxImmediate imm) := rfl
theorem laxIndirectX (zp : Byte) : Statement (.laxIndirectX zp) := rfl
theorem ldyZeroPage (zp : Byte) : Statement (.ldyZeroPage zp) := rfl
theorem ldaZeroPage (zp : Byte) : Statement (.ldaZeroPage zp) := rfl
theorem ldxZeroPage (zp : Byte) : Statement (.ldxZeroPage zp) := rfl
theorem laxZeroPage (zp : Byte) : Statement (.laxZeroPage zp) := rfl
theorem ldaImmediate (imm : Byte) : Statement (.ldaImmediate imm) := rfl
theorem lxaImmediate (imm : Byte) : Statement (.lxaImmediate imm) := rfl
theorem ldyAbsolute (addr : Addr) : Statement (.ldyAbsolute addr) := rfl
theorem ldaAbsolute (addr : Addr) : Statement (.ldaAbsolute addr) := rfl
theorem ldxAbsolute (addr : Addr) : Statement (.ldxAbsolute addr) := rfl
theorem laxAbsolute (addr : Addr) : Statement (.laxAbsolute addr) := rfl
theorem bcs (off : Byte) : Statement (.bcs off) := rfl
theorem ldaIndirectY (zp : Byte) : Statement (.ldaIndirectY zp) := rfl
theorem laxIndirectY (zp : Byte) : Statement (.laxIndirectY zp) := rfl
theorem ldyZeroPageX (zp : Byte) : Statement (.ldyZeroPageX zp) := rfl
theorem ldaZeroPageX (zp : Byte) : Statement (.ldaZeroPageX zp) := rfl
theorem ldxZeroPageY (zp : Byte) : Statement (.ldxZeroPageY zp) := rfl
theorem laxZeroPageY (zp : Byte) : Statement (.laxZeroPageY zp) := rfl
theorem ldaAbsoluteY (addr : Addr) : Statement (.ldaAbsoluteY addr) := rfl
theorem lasAbsoluteY (addr : Addr) : Statement (.lasAbsoluteY addr) := rfl
theorem ldyAbsoluteX (addr : Addr) : Statement (.ldyAbsoluteX addr) := rfl
theorem ldaAbsoluteX (addr : Addr) : Statement (.ldaAbsoluteX addr) := rfl
theorem ldxAbsoluteY (addr : Addr) : Statement (.ldxAbsoluteY addr) := rfl
theorem laxAbsoluteY (addr : Addr) : Statement (.laxAbsoluteY addr) := rfl
theorem cpyImmediate (imm : Byte) : Statement (.cpyImmediate imm) := rfl
theorem cmpIndirectX (zp : Byte) : Statement (.cmpIndirectX zp) := rfl
theorem nopImmediateC2 (imm : Byte) : Statement (.nopImmediateC2 imm) := rfl
theorem dcpIndirectX (zp : Byte) : Statement (.dcpIndirectX zp) := rfl
theorem cpyZeroPage (zp : Byte) : Statement (.cpyZeroPage zp) := rfl
theorem cmpZeroPage (zp : Byte) : Statement (.cmpZeroPage zp) := rfl
theorem decZeroPage (zp : Byte) : Statement (.decZeroPage zp) := rfl
theorem dcpZeroPage (zp : Byte) : Statement (.dcpZeroPage zp) := rfl
theorem cmpImmediate (imm : Byte) : Statement (.cmpImmediate imm) := rfl
theorem axsImmediate (imm : Byte) : Statement (.axsImmediate imm) := rfl
theorem cpyAbsolute (addr : Addr) : Statement (.cpyAbsolute addr) := rfl
theorem cmpAbsolute (addr : Addr) : Statement (.cmpAbsolute addr) := rfl
theorem decAbsolute (addr : Addr) : Statement (.decAbsolute addr) := rfl
theorem dcpAbsolute (addr : Addr) : Statement (.dcpAbsolute addr) := rfl
theorem bne (off : Byte) : Statement (.bne off) := rfl
theorem cmpIndirectY (zp : Byte) : Statement (.cmpIndirectY zp) := rfl
theorem dcpIndirectY (zp : Byte) : Statement (.dcpIndirectY zp) := rfl
theorem nopZeroPageXD4 (zp : Byte) : Statement (.nopZeroPageXD4 zp) := rfl
theorem cmpZeroPageX (zp : Byte) : Statement (.cmpZeroPageX zp) := rfl
theorem decZeroPageX (zp : Byte) : Statement (.decZeroPageX zp) := rfl
theorem dcpZeroPageX (zp : Byte) : Statement (.dcpZeroPageX zp) := rfl
theorem cmpAbsoluteY (addr : Addr) : Statement (.cmpAbsoluteY addr) := rfl
theorem dcpAbsoluteY (addr : Addr) : Statement (.dcpAbsoluteY addr) := rfl
theorem nopAbsoluteXDC (addr : Addr) : Statement (.nopAbsoluteXDC addr) := rfl
theorem cmpAbsoluteX (addr : Addr) : Statement (.cmpAbsoluteX addr) := rfl
theorem decAbsoluteX (addr : Addr) : Statement (.decAbsoluteX addr) := rfl
theorem dcpAbsoluteX (addr : Addr) : Statement (.dcpAbsoluteX addr) := rfl
theorem cpxImmediate (imm : Byte) : Statement (.cpxImmediate imm) := rfl
theorem sbcIndirectX (zp : Byte) : Statement (.sbcIndirectX zp) := rfl
theorem nopImmediateE2 (imm : Byte) : Statement (.nopImmediateE2 imm) := rfl
theorem iscIndirectX (zp : Byte) : Statement (.iscIndirectX zp) := rfl
theorem cpxZeroPage (zp : Byte) : Statement (.cpxZeroPage zp) := rfl
theorem sbcZeroPage (zp : Byte) : Statement (.sbcZeroPage zp) := rfl
theorem incZeroPage (zp : Byte) : Statement (.incZeroPage zp) := rfl
theorem iscZeroPage (zp : Byte) : Statement (.iscZeroPage zp) := rfl
theorem sbcImmediateE9 (imm : Byte) : Statement (.sbcImmediateE9 imm) := rfl
theorem sbcImmediateEB (imm : Byte) : Statement (.sbcImmediateEB imm) := rfl
theorem cpxAbsolute (addr : Addr) : Statement (.cpxAbsolute addr) := rfl
theorem sbcAbsolute (addr : Addr) : Statement (.sbcAbsolute addr) := rfl
theorem incAbsolute (addr : Addr) : Statement (.incAbsolute addr) := rfl
theorem iscAbsolute (addr : Addr) : Statement (.iscAbsolute addr) := rfl
theorem beq (off : Byte) : Statement (.beq off) := rfl
theorem sbcIndirectY (zp : Byte) : Statement (.sbcIndirectY zp) := rfl
theorem iscIndirectY (zp : Byte) : Statement (.iscIndirectY zp) := rfl
theorem nopZeroPageXF4 (zp : Byte) : Statement (.nopZeroPageXF4 zp) := rfl
theorem sbcZeroPageX (zp : Byte) : Statement (.sbcZeroPageX zp) := rfl
theorem incZeroPageX (zp : Byte) : Statement (.incZeroPageX zp) := rfl
theorem iscZeroPageX (zp : Byte) : Statement (.iscZeroPageX zp) := rfl
theorem sbcAbsoluteY (addr : Addr) : Statement (.sbcAbsoluteY addr) := rfl
theorem iscAbsoluteY (addr : Addr) : Statement (.iscAbsoluteY addr) := rfl
theorem nopAbsoluteXFC (addr : Addr) : Statement (.nopAbsoluteXFC addr) := rfl
theorem sbcAbsoluteX (addr : Addr) : Statement (.sbcAbsoluteX addr) := rfl
theorem incAbsoluteX (addr : Addr) : Statement (.incAbsoluteX addr) := rfl
theorem iscAbsoluteX (addr : Addr) : Statement (.iscAbsoluteX addr) := rfl
theorem brk : Statement .brk := rfl
theorem kil02 : Statement .kil02 := rfl
theorem php : Statement .php := rfl
theorem aslAccumulator : Statement .aslAccumulator := rfl
theorem kil12 : Statement .kil12 := rfl
theorem clc : Statement .clc := rfl
theorem nop1A : Statement .nop1A := rfl
theorem kil22 : Statement .kil22 := rfl
theorem plp : Statement .plp := rfl
theorem rolAccumulator : Statement .rolAccumulator := rfl
theorem kil32 : Statement .kil32 := rfl
theorem sec : Statement .sec := rfl
theorem nop3A : Statement .nop3A := rfl
theorem rti : Statement .rti := rfl
theorem kil42 : Statement .kil42 := rfl
theorem pha : Statement .pha := rfl
theorem lsrAccumulator : Statement .lsrAccumulator := rfl
theorem kil52 : Statement .kil52 := rfl
theorem cli : Statement .cli := rfl
theorem nop5A : Statement .nop5A := rfl
theorem rts : Statement .rts := rfl
theorem kil62 : Statement .kil62 := rfl
theorem pla : Statement .pla := rfl
theorem rorAccumulator : Statement .rorAccumulator := rfl
theorem kil72 : Statement .kil72 := rfl
theorem sei : Statement .sei := rfl
theorem nop7A : Statement .nop7A := rfl
theorem dey : Statement .dey := rfl
theorem txa : Statement .txa := rfl
theorem kil92 : Statement .kil92 := rfl
theorem tya : Statement .tya := rfl
theorem txs : Statement .txs := rfl
theorem tay : Statement .tay := rfl
theorem tax : Statement .tax := rfl
theorem kilB2 : Statement .kilB2 := rfl
theorem clv : Statement .clv := rfl
theorem tsx : Statement .tsx := rfl
theorem iny : Statement .iny := rfl
theorem dex : Statement .dex := rfl
theorem kilD2 : Statement .kilD2 := rfl
theorem cld : Statement .cld := rfl
theorem nopDA : Statement .nopDA := rfl
theorem inx : Statement .inx := rfl
theorem nopEA : Statement .nopEA := rfl
theorem kilF2 : Statement .kilF2 := rfl
theorem sed : Statement .sed := rfl
theorem nopFA : Statement .nopFA := rfl

end Sys2Proof.Laws.OpcodeRow
end

