-- ==== Sys2Proof/Tests/Slice0.lean ====
section
/-! SUPPORT. Small tests. Expected results come from spec/95_test_vectors.md (the vector's number ends the
theorem's name), from the table R88 for the encodings, or from the rule a test cites. Witnesses meet the
hypotheses of the statements in Certificates/Slice0/Obligations.lean. -/

namespace Sys2Proof.Tests

open Sys2Proof.Machine

/-! ### Well-formedness: an ill-formed term for each check -/

theorem test_wf_entry_ok : (OpEntry.mk 0xA9 .LDA .immediate 2 .documented (some 2)).wf = true := by decide

theorem test_wf_entry_wrong_length : (OpEntry.mk 0xA9 .LDA .immediate 3 .documented (some 2)).wf = false := by
  decide

theorem test_wf_table : (opTable.all OpEntry.wf) = true := by decide +kernel

theorem test_rom_size_ok :
    prgSizeOfLength 0x4000 = some .bank16K ∧ prgSizeOfLength 0x8000 = some .bank32K := by decide

/-- D5: an empty image and an odd-sized one are refused at construction. -/
theorem test_rom_size_refused :
    prgSizeOfLength 0 = none ∧ prgSizeOfLength 0x4001 = none ∧ prgSizeOfLength 0x6000 = none := by
  decide

theorem test_loadable_ok : loadable [0xA9, 0x05, 0x00] = true := by decide

/-- D24: one byte more than 0x8000 is refused. -/
theorem test_loadable_too_long (p : List Byte) (h : p.length = 0x8001) : loadable p = false := by
  simp [loadable, h]

/-! ### Every opcode of the table R88 decodes to its instruction -/

theorem test_decode_row_0 :
    [decodeTableWord 8 0x00, decodeTableWord 16 0x9C01, decodeTableWord 8 0x02,
     decodeTableWord 16 0x9C03, decodeTableWord 16 0x9C04, decodeTableWord 16 0x9C05,
     decodeTableWord 16 0x9C06, decodeTableWord 16 0x9C07, decodeTableWord 8 0x08,
     decodeTableWord 16 0x9C09, decodeTableWord 8 0x0A, decodeTableWord 16 0x9C0B,
     decodeTableWord 24 0x12A40C, decodeTableWord 24 0x12A40D, decodeTableWord 24 0x12A40E,
     decodeTableWord 24 0x12A40F] =
    [some .brk, some (.oraIndirectX 0x9C), some .kil02, some (.sloIndirectX 0x9C),
     some (.nopZeroPage04 0x9C), some (.oraZeroPage 0x9C), some (.aslZeroPage 0x9C),
     some (.sloZeroPage 0x9C), some .php, some (.oraImmediate 0x9C), some .aslAccumulator,
     some (.ancImmediate0B 0x9C), some (.nopAbsolute 0x12A4), some (.oraAbsolute 0x12A4),
     some (.aslAbsolute 0x12A4), some (.sloAbsolute 0x12A4)] := by decide

theorem test_decode_row_1 :
    [decodeTableWord 16 0x9C10, decodeTableWord 16 0x9C11, decodeTableWord 8 0x12,
     decodeTableWord 16 0x9C13, decodeTableWord 16 0x9C14, decodeTableWord 16 0x9C15,
     decodeTableWord 16 0x9C16, decodeTableWord 16 0x9C17, decodeTableWord 8 0x18,
     decodeTableWord 24 0x12A419, decodeTableWord 8 0x1A, decodeTableWord 24 0x12A41B,
     decodeTableWord 24 0x12A41C, decodeTableWord 24 0x12A41D, decodeTableWord 24 0x12A41E,
     decodeTableWord 24 0x12A41F] =
    [some (.bpl 0x9C), some (.oraIndirectY 0x9C), some .kil12, some (.sloIndirectY 0x9C),
     some (.nopZeroPageX14 0x9C), some (.oraZeroPageX 0x9C), some (.aslZeroPageX 0x9C),
     some (.sloZeroPageX 0x9C), some .clc, some (.oraAbsoluteY 0x12A4), some .nop1A,
     some (.sloAbsoluteY 0x12A4), some (.nopAbsoluteX1C 0x12A4), some (.oraAbsoluteX 0x12A4),
     some (.aslAbsoluteX 0x12A4), some (.sloAbsoluteX 0x12A4)] := by decide

theorem test_decode_row_2 :
    [decodeTableWord 24 0x12A420, decodeTableWord 16 0x9C21, decodeTableWord 8 0x22,
     decodeTableWord 16 0x9C23, decodeTableWord 16 0x9C24, decodeTableWord 16 0x9C25,
     decodeTableWord 16 0x9C26, decodeTableWord 16 0x9C27, decodeTableWord 8 0x28,
     decodeTableWord 16 0x9C29, decodeTableWord 8 0x2A, decodeTableWord 16 0x9C2B,
     decodeTableWord 24 0x12A42C, decodeTableWord 24 0x12A42D, decodeTableWord 24 0x12A42E,
     decodeTableWord 24 0x12A42F] =
    [some (.jsrAbsolute 0x12A4), some (.andIndirectX 0x9C), some .kil22,
     some (.rlaIndirectX 0x9C), some (.bitZeroPage 0x9C), some (.andZeroPage 0x9C),
     some (.rolZeroPage 0x9C), some (.rlaZeroPage 0x9C), some .plp, some (.andImmediate 0x9C),
     some .rolAccumulator, some (.ancImmediate2B 0x9C), some (.bitAbsolute 0x12A4),
     some (.andAbsolute 0x12A4), some (.rolAbsolute 0x12A4), some (.rlaAbsolute 0x12A4)] := by decide

theorem test_decode_row_3 :
    [decodeTableWord 16 0x9C30, decodeTableWord 16 0x9C31, decodeTableWord 8 0x32,
     decodeTableWord 16 0x9C33, decodeTableWord 16 0x9C34, decodeTableWord 16 0x9C35,
     decodeTableWord 16 0x9C36, decodeTableWord 16 0x9C37, decodeTableWord 8 0x38,
     decodeTableWord 24 0x12A439, decodeTableWord 8 0x3A, decodeTableWord 24 0x12A43B,
     decodeTableWord 24 0x12A43C, decodeTableWord 24 0x12A43D, decodeTableWord 24 0x12A43E,
     decodeTableWord 24 0x12A43F] =
    [some (.bmi 0x9C), some (.andIndirectY 0x9C), some .kil32, some (.rlaIndirectY 0x9C),
     some (.nopZeroPageX34 0x9C), some (.andZeroPageX 0x9C), some (.rolZeroPageX 0x9C),
     some (.rlaZeroPageX 0x9C), some .sec, some (.andAbsoluteY 0x12A4), some .nop3A,
     some (.rlaAbsoluteY 0x12A4), some (.nopAbsoluteX3C 0x12A4), some (.andAbsoluteX 0x12A4),
     some (.rolAbsoluteX 0x12A4), some (.rlaAbsoluteX 0x12A4)] := by decide

theorem test_decode_row_4 :
    [decodeTableWord 8 0x40, decodeTableWord 16 0x9C41, decodeTableWord 8 0x42,
     decodeTableWord 16 0x9C43, decodeTableWord 16 0x9C44, decodeTableWord 16 0x9C45,
     decodeTableWord 16 0x9C46, decodeTableWord 16 0x9C47, decodeTableWord 8 0x48,
     decodeTableWord 16 0x9C49, decodeTableWord 8 0x4A, decodeTableWord 16 0x9C4B,
     decodeTableWord 24 0x12A44C, decodeTableWord 24 0x12A44D, decodeTableWord 24 0x12A44E,
     decodeTableWord 24 0x12A44F] =
    [some .rti, some (.eorIndirectX 0x9C), some .kil42, some (.sreIndirectX 0x9C),
     some (.nopZeroPage44 0x9C), some (.eorZeroPage 0x9C), some (.lsrZeroPage 0x9C),
     some (.sreZeroPage 0x9C), some .pha, some (.eorImmediate 0x9C), some .lsrAccumulator,
     some (.alrImmediate 0x9C), some (.jmpAbsolute 0x12A4), some (.eorAbsolute 0x12A4),
     some (.lsrAbsolute 0x12A4), some (.sreAbsolute 0x12A4)] := by decide

theorem test_decode_row_5 :
    [decodeTableWord 16 0x9C50, decodeTableWord 16 0x9C51, decodeTableWord 8 0x52,
     decodeTableWord 16 0x9C53, decodeTableWord 16 0x9C54, decodeTableWord 16 0x9C55,
     decodeTableWord 16 0x9C56, decodeTableWord 16 0x9C57, decodeTableWord 8 0x58,
     decodeTableWord 24 0x12A459, decodeTableWord 8 0x5A, decodeTableWord 24 0x12A45B,
     decodeTableWord 24 0x12A45C, decodeTableWord 24 0x12A45D, decodeTableWord 24 0x12A45E,
     decodeTableWord 24 0x12A45F] =
    [some (.bvc 0x9C), some (.eorIndirectY 0x9C), some .kil52, some (.sreIndirectY 0x9C),
     some (.nopZeroPageX54 0x9C), some (.eorZeroPageX 0x9C), some (.lsrZeroPageX 0x9C),
     some (.sreZeroPageX 0x9C), some .cli, some (.eorAbsoluteY 0x12A4), some .nop5A,
     some (.sreAbsoluteY 0x12A4), some (.nopAbsoluteX5C 0x12A4), some (.eorAbsoluteX 0x12A4),
     some (.lsrAbsoluteX 0x12A4), some (.sreAbsoluteX 0x12A4)] := by decide

theorem test_decode_row_6 :
    [decodeTableWord 8 0x60, decodeTableWord 16 0x9C61, decodeTableWord 8 0x62,
     decodeTableWord 16 0x9C63, decodeTableWord 16 0x9C64, decodeTableWord 16 0x9C65,
     decodeTableWord 16 0x9C66, decodeTableWord 16 0x9C67, decodeTableWord 8 0x68,
     decodeTableWord 16 0x9C69, decodeTableWord 8 0x6A, decodeTableWord 16 0x9C6B,
     decodeTableWord 24 0x12A46C, decodeTableWord 24 0x12A46D, decodeTableWord 24 0x12A46E,
     decodeTableWord 24 0x12A46F] =
    [some .rts, some (.adcIndirectX 0x9C), some .kil62, some (.rraIndirectX 0x9C),
     some (.nopZeroPage64 0x9C), some (.adcZeroPage 0x9C), some (.rorZeroPage 0x9C),
     some (.rraZeroPage 0x9C), some .pla, some (.adcImmediate 0x9C), some .rorAccumulator,
     some (.arrImmediate 0x9C), some (.jmpIndirect 0x12A4), some (.adcAbsolute 0x12A4),
     some (.rorAbsolute 0x12A4), some (.rraAbsolute 0x12A4)] := by decide

theorem test_decode_row_7 :
    [decodeTableWord 16 0x9C70, decodeTableWord 16 0x9C71, decodeTableWord 8 0x72,
     decodeTableWord 16 0x9C73, decodeTableWord 16 0x9C74, decodeTableWord 16 0x9C75,
     decodeTableWord 16 0x9C76, decodeTableWord 16 0x9C77, decodeTableWord 8 0x78,
     decodeTableWord 24 0x12A479, decodeTableWord 8 0x7A, decodeTableWord 24 0x12A47B,
     decodeTableWord 24 0x12A47C, decodeTableWord 24 0x12A47D, decodeTableWord 24 0x12A47E,
     decodeTableWord 24 0x12A47F] =
    [some (.bvs 0x9C), some (.adcIndirectY 0x9C), some .kil72, some (.rraIndirectY 0x9C),
     some (.nopZeroPageX74 0x9C), some (.adcZeroPageX 0x9C), some (.rorZeroPageX 0x9C),
     some (.rraZeroPageX 0x9C), some .sei, some (.adcAbsoluteY 0x12A4), some .nop7A,
     some (.rraAbsoluteY 0x12A4), some (.nopAbsoluteX7C 0x12A4), some (.adcAbsoluteX 0x12A4),
     some (.rorAbsoluteX 0x12A4), some (.rraAbsoluteX 0x12A4)] := by decide

theorem test_decode_row_8 :
    [decodeTableWord 16 0x9C80, decodeTableWord 16 0x9C81, decodeTableWord 16 0x9C82,
     decodeTableWord 16 0x9C83, decodeTableWord 16 0x9C84, decodeTableWord 16 0x9C85,
     decodeTableWord 16 0x9C86, decodeTableWord 16 0x9C87, decodeTableWord 8 0x88,
     decodeTableWord 16 0x9C89, decodeTableWord 8 0x8A, decodeTableWord 16 0x9C8B,
     decodeTableWord 24 0x12A48C, decodeTableWord 24 0x12A48D, decodeTableWord 24 0x12A48E,
     decodeTableWord 24 0x12A48F] =
    [some (.nopImmediate80 0x9C), some (.staIndirectX 0x9C), some (.nopImmediate82 0x9C),
     some (.saxIndirectX 0x9C), some (.styZeroPage 0x9C), some (.staZeroPage 0x9C),
     some (.stxZeroPage 0x9C), some (.saxZeroPage 0x9C), some .dey, some (.nopImmediate89 0x9C),
     some .txa, some (.xaaImmediate 0x9C), some (.styAbsolute 0x12A4),
     some (.staAbsolute 0x12A4), some (.stxAbsolute 0x12A4), some (.saxAbsolute 0x12A4)] := by decide

theorem test_decode_row_9 :
    [decodeTableWord 16 0x9C90, decodeTableWord 16 0x9C91, decodeTableWord 8 0x92,
     decodeTableWord 16 0x9C93, decodeTableWord 16 0x9C94, decodeTableWord 16 0x9C95,
     decodeTableWord 16 0x9C96, decodeTableWord 16 0x9C97, decodeTableWord 8 0x98,
     decodeTableWord 24 0x12A499, decodeTableWord 8 0x9A, decodeTableWord 24 0x12A49B,
     decodeTableWord 24 0x12A49C, decodeTableWord 24 0x12A49D, decodeTableWord 24 0x12A49E,
     decodeTableWord 24 0x12A49F] =
    [some (.bcc 0x9C), some (.staIndirectY 0x9C), some .kil92, some (.shaIndirectY 0x9C),
     some (.styZeroPageX 0x9C), some (.staZeroPageX 0x9C), some (.stxZeroPageY 0x9C),
     some (.saxZeroPageY 0x9C), some .tya, some (.staAbsoluteY 0x12A4), some .txs,
     some (.tasAbsoluteY 0x12A4), some (.shyAbsoluteX 0x12A4), some (.staAbsoluteX 0x12A4),
     some (.shxAbsoluteY 0x12A4), some (.shaAbsoluteY 0x12A4)] := by decide

theorem test_decode_row_A :
    [decodeTableWord 16 0x9CA0, decodeTableWord 16 0x9CA1, decodeTableWord 16 0x9CA2,
     decodeTableWord 16 0x9CA3, decodeTableWord 16 0x9CA4, decodeTableWord 16 0x9CA5,
     decodeTableWord 16 0x9CA6, decodeTableWord 16 0x9CA7, decodeTableWord 8 0xA8,
     decodeTableWord 16 0x9CA9, decodeTableWord 8 0xAA, decodeTableWord 16 0x9CAB,
     decodeTableWord 24 0x12A4AC, decodeTableWord 24 0x12A4AD, decodeTableWord 24 0x12A4AE,
     decodeTableWord 24 0x12A4AF] =
    [some (.ldyImmediate 0x9C), some (.ldaIndirectX 0x9C), some (.ldxImmediate 0x9C),
     some (.laxIndirectX 0x9C), some (.ldyZeroPage 0x9C), some (.ldaZeroPage 0x9C),
     some (.ldxZeroPage 0x9C), some (.laxZeroPage 0x9C), some .tay, some (.ldaImmediate 0x9C),
     some .tax, some (.lxaImmediate 0x9C), some (.ldyAbsolute 0x12A4),
     some (.ldaAbsolute 0x12A4), some (.ldxAbsolute 0x12A4), some (.laxAbsolute 0x12A4)] := by decide

theorem test_decode_row_B :
    [decodeTableWord 16 0x9CB0, decodeTableWord 16 0x9CB1, decodeTableWord 8 0xB2,
     decodeTableWord 16 0x9CB3, decodeTableWord 16 0x9CB4, decodeTableWord 16 0x9CB5,
     decodeTableWord 16 0x9CB6, decodeTableWord 16 0x9CB7, decodeTableWord 8 0xB8,
     decodeTableWord 24 0x12A4B9, decodeTableWord 8 0xBA, decodeTableWord 24 0x12A4BB,
     decodeTableWord 24 0x12A4BC, decodeTableWord 24 0x12A4BD, decodeTableWord 24 0x12A4BE,
     decodeTableWord 24 0x12A4BF] =
    [some (.bcs 0x9C), some (.ldaIndirectY 0x9C), some .kilB2, some (.laxIndirectY 0x9C),
     some (.ldyZeroPageX 0x9C), some (.ldaZeroPageX 0x9C), some (.ldxZeroPageY 0x9C),
     some (.laxZeroPageY 0x9C), some .clv, some (.ldaAbsoluteY 0x12A4), some .tsx,
     some (.lasAbsoluteY 0x12A4), some (.ldyAbsoluteX 0x12A4), some (.ldaAbsoluteX 0x12A4),
     some (.ldxAbsoluteY 0x12A4), some (.laxAbsoluteY 0x12A4)] := by decide

theorem test_decode_row_C :
    [decodeTableWord 16 0x9CC0, decodeTableWord 16 0x9CC1, decodeTableWord 16 0x9CC2,
     decodeTableWord 16 0x9CC3, decodeTableWord 16 0x9CC4, decodeTableWord 16 0x9CC5,
     decodeTableWord 16 0x9CC6, decodeTableWord 16 0x9CC7, decodeTableWord 8 0xC8,
     decodeTableWord 16 0x9CC9, decodeTableWord 8 0xCA, decodeTableWord 16 0x9CCB,
     decodeTableWord 24 0x12A4CC, decodeTableWord 24 0x12A4CD, decodeTableWord 24 0x12A4CE,
     decodeTableWord 24 0x12A4CF] =
    [some (.cpyImmediate 0x9C), some (.cmpIndirectX 0x9C), some (.nopImmediateC2 0x9C),
     some (.dcpIndirectX 0x9C), some (.cpyZeroPage 0x9C), some (.cmpZeroPage 0x9C),
     some (.decZeroPage 0x9C), some (.dcpZeroPage 0x9C), some .iny, some (.cmpImmediate 0x9C),
     some .dex, some (.axsImmediate 0x9C), some (.cpyAbsolute 0x12A4),
     some (.cmpAbsolute 0x12A4), some (.decAbsolute 0x12A4), some (.dcpAbsolute 0x12A4)] := by decide

theorem test_decode_row_D :
    [decodeTableWord 16 0x9CD0, decodeTableWord 16 0x9CD1, decodeTableWord 8 0xD2,
     decodeTableWord 16 0x9CD3, decodeTableWord 16 0x9CD4, decodeTableWord 16 0x9CD5,
     decodeTableWord 16 0x9CD6, decodeTableWord 16 0x9CD7, decodeTableWord 8 0xD8,
     decodeTableWord 24 0x12A4D9, decodeTableWord 8 0xDA, decodeTableWord 24 0x12A4DB,
     decodeTableWord 24 0x12A4DC, decodeTableWord 24 0x12A4DD, decodeTableWord 24 0x12A4DE,
     decodeTableWord 24 0x12A4DF] =
    [some (.bne 0x9C), some (.cmpIndirectY 0x9C), some .kilD2, some (.dcpIndirectY 0x9C),
     some (.nopZeroPageXD4 0x9C), some (.cmpZeroPageX 0x9C), some (.decZeroPageX 0x9C),
     some (.dcpZeroPageX 0x9C), some .cld, some (.cmpAbsoluteY 0x12A4), some .nopDA,
     some (.dcpAbsoluteY 0x12A4), some (.nopAbsoluteXDC 0x12A4), some (.cmpAbsoluteX 0x12A4),
     some (.decAbsoluteX 0x12A4), some (.dcpAbsoluteX 0x12A4)] := by decide

theorem test_decode_row_E :
    [decodeTableWord 16 0x9CE0, decodeTableWord 16 0x9CE1, decodeTableWord 16 0x9CE2,
     decodeTableWord 16 0x9CE3, decodeTableWord 16 0x9CE4, decodeTableWord 16 0x9CE5,
     decodeTableWord 16 0x9CE6, decodeTableWord 16 0x9CE7, decodeTableWord 8 0xE8,
     decodeTableWord 16 0x9CE9, decodeTableWord 8 0xEA, decodeTableWord 16 0x9CEB,
     decodeTableWord 24 0x12A4EC, decodeTableWord 24 0x12A4ED, decodeTableWord 24 0x12A4EE,
     decodeTableWord 24 0x12A4EF] =
    [some (.cpxImmediate 0x9C), some (.sbcIndirectX 0x9C), some (.nopImmediateE2 0x9C),
     some (.iscIndirectX 0x9C), some (.cpxZeroPage 0x9C), some (.sbcZeroPage 0x9C),
     some (.incZeroPage 0x9C), some (.iscZeroPage 0x9C), some .inx, some (.sbcImmediateE9 0x9C),
     some .nopEA, some (.sbcImmediateEB 0x9C), some (.cpxAbsolute 0x12A4),
     some (.sbcAbsolute 0x12A4), some (.incAbsolute 0x12A4), some (.iscAbsolute 0x12A4)] := by decide

theorem test_decode_row_F :
    [decodeTableWord 16 0x9CF0, decodeTableWord 16 0x9CF1, decodeTableWord 8 0xF2,
     decodeTableWord 16 0x9CF3, decodeTableWord 16 0x9CF4, decodeTableWord 16 0x9CF5,
     decodeTableWord 16 0x9CF6, decodeTableWord 16 0x9CF7, decodeTableWord 8 0xF8,
     decodeTableWord 24 0x12A4F9, decodeTableWord 8 0xFA, decodeTableWord 24 0x12A4FB,
     decodeTableWord 24 0x12A4FC, decodeTableWord 24 0x12A4FD, decodeTableWord 24 0x12A4FE,
     decodeTableWord 24 0x12A4FF] =
    [some (.beq 0x9C), some (.sbcIndirectY 0x9C), some .kilF2, some (.iscIndirectY 0x9C),
     some (.nopZeroPageXF4 0x9C), some (.sbcZeroPageX 0x9C), some (.incZeroPageX 0x9C),
     some (.iscZeroPageX 0x9C), some .sed, some (.sbcAbsoluteY 0x12A4), some .nopFA,
     some (.iscAbsoluteY 0x12A4), some (.nopAbsoluteXFC 0x12A4), some (.sbcAbsoluteX 0x12A4),
     some (.incAbsoluteX 0x12A4), some (.iscAbsoluteX 0x12A4)] := by decide

/-- R93: the operand word is little-endian, and a byte after the instruction is left over. -/
theorem test_decode_rest : decode [0x8D, 0x34, 0x12, 0xEA] = .ok (.staAbsolute 0x1234, [0xEA]) := by decide

theorem test_encode : encode (.staAbsolute 0x1234) = [0x8D, 0x34, 0x12] := by decide

/-- A cut-off instruction is refused by name. -/
theorem test_decode_truncated : decode [0x8D, 0x34] = .error (.truncated 0x8D) := by decide

/-! ### One step of each instruction, from spec/95_test_vectors.md section 3 -/

/-- S0 of spec/95_test_vectors.md section 1: `load(code); reset()` with RAM all 0x00. -/
def S0 (code : List Byte) : State := { State.reset with mem := loadImage [] code, pc := 0x8000 }

/-- Writes RAM bytes directly, the test device of spec/95_test_vectors.md section 1. -/
def withRam (s : State) : List (Nat × Byte) → State
  | [] => s
  | (k, v) :: rest => withRam { s with mem := Memory.write s.mem k v } rest

/-- The registers, the run state and some bytes after one step. -/
structure Seen where
  a : Byte
  x : Byte
  y : Byte
  sp : Byte
  p : Byte
  pc : Addr
  run : RunState
  bytes : List Byte
  deriving DecidableEq

/-- What is seen after one step: the bytes at the addresses of `reads` among it. -/
def outcome (reads : List Addr) (s : State) : Option Seen :=
  match step s with
  | .next t => some ⟨t.a, t.x, t.y, t.sp, t.p, t.pc, t.run, reads.map t.readByte⟩
  | _ => none

/-- The fault of one step. -/
def faultOf (s : State) : Option Fault :=
  match step s with
  | .fault f => some f
  | _ => none

theorem test_adcImmediate_A4 :
    outcome [] { S0 [0x69, 0x80] with a := 0x80 } =
    some ⟨0x00, 0x00, 0x00, 0xFD, 0x67, 0x8002, .running, []⟩ := by decide

theorem test_adcImmediate_A5 :
    outcome [] { S0 [0x69, 0x7F] with a := 0x00, p := 0x25 } =
    some ⟨0x80, 0x00, 0x00, 0xFD, 0xE4, 0x8002, .running, []⟩ := by decide

theorem test_alrImmediate_U15 :
    outcome [] { S0 [0x4B, 0x03] with a := 0xFF } =
    some ⟨0x01, 0x00, 0x00, 0xFD, 0x25, 0x8002, .running, []⟩ := by decide

theorem test_ancImmediate0B_U13 :
    outcome [] { S0 [0x0B, 0x80] with a := 0xFF } =
    some ⟨0x80, 0x00, 0x00, 0xFD, 0xA5, 0x8002, .running, []⟩ := by decide

theorem test_ancImmediate2B_U14 :
    outcome [] { S0 [0x2B, 0x7F] with a := 0xFF, p := 0x25 } =
    some ⟨0x7F, 0x00, 0x00, 0xFD, 0x24, 0x8002, .running, []⟩ := by decide

theorem test_andImmediate_G1 :
    outcome [] { S0 [0x29, 0x0F] with a := 0xF0 } =
    some ⟨0x00, 0x00, 0x00, 0xFD, 0x26, 0x8002, .running, []⟩ := by decide

theorem test_andImmediate_G2 :
    outcome [] { S0 [0x29, 0xC3] with a := 0x81 } =
    some ⟨0x81, 0x00, 0x00, 0xFD, 0xA4, 0x8002, .running, []⟩ := by decide

theorem test_arrImmediate_U16 :
    outcome [] { S0 [0x6B, 0xC0] with a := 0xFF, p := 0x25 } =
    some ⟨0xE0, 0x00, 0x00, 0xFD, 0xA5, 0x8002, .running, []⟩ := by decide

theorem test_arrImmediate_U17 :
    outcome [] { S0 [0x6B, 0x40] with a := 0xFF } =
    some ⟨0x20, 0x00, 0x00, 0xFD, 0x64, 0x8002, .running, []⟩ := by decide

theorem test_aslZeroPage_H3 :
    outcome [0x0010] (withRam (S0 [0x06, 0x10]) [(0x0010, 0x40)]) =
    some ⟨0x00, 0x00, 0x00, 0xFD, 0xA4, 0x8002, .running, [0x80]⟩ := by decide

theorem test_aslAbsolute_E3 :
    faultOf (S0 [0x0E, 0x00, 0x80]) = some (.romWrite 0x0E 0x8000 0x8000) := by decide

theorem test_axsImmediate_U18 :
    outcome [] { S0 [0xCB, 0x10] with a := 0xF0, x := 0x3C } =
    some ⟨0xF0, 0x20, 0x00, 0xFD, 0x25, 0x8002, .running, []⟩ := by decide

theorem test_axsImmediate_U19 :
    outcome [] { S0 [0xCB, 0x01] with a := 0x00, x := 0x00 } =
    some ⟨0x00, 0xFF, 0x00, 0xFD, 0xA4, 0x8002, .running, []⟩ := by decide

theorem test_bcc_J1 :
    outcome [] { S0 [0x90, 0x10] with p := 0x24 } =
    some ⟨0x00, 0x00, 0x00, 0xFD, 0x24, 0x8012, .running, []⟩ := by decide

theorem test_bcc_J2 :
    outcome [] { S0 [0x90, 0x10] with p := 0x25 } =
    some ⟨0x00, 0x00, 0x00, 0xFD, 0x25, 0x8002, .running, []⟩ := by decide

theorem test_bcs_J3 :
    outcome [] { S0 [0xB0, 0xFE] with p := 0x25 } =
    some ⟨0x00, 0x00, 0x00, 0xFD, 0x25, 0x8000, .running, []⟩ := by decide

theorem test_beq_J4 :
    outcome [] { S0 [0xF0, 0x7F] with p := 0x26 } =
    some ⟨0x00, 0x00, 0x00, 0xFD, 0x26, 0x8081, .running, []⟩ := by decide

theorem test_beq_J10 :
    outcome [] { S0 [0xF0, 0xFF] with p := 0x26 } =
    some ⟨0x00, 0x00, 0x00, 0xFD, 0x26, 0x8002, .running, []⟩ := by decide

theorem test_bitZeroPage_K7 :
    outcome [] (withRam { S0 [0x24, 0x10] with a := 0x0F } [(0x0010, 0xC0)]) =
    some ⟨0x0F, 0x00, 0x00, 0xFD, 0xE6, 0x8002, .running, []⟩ := by decide

theorem test_bitAbsolute_K9 :
    outcome [] (withRam { S0 [0x2C, 0x00, 0x03] with a := 0xFF } [(0x0300, 0x40)]) =
    some ⟨0xFF, 0x00, 0x00, 0xFD, 0x64, 0x8003, .running, []⟩ := by decide

theorem test_bmi_J7 :
    outcome [] { S0 [0x30, 0x02] with p := 0xA4 } =
    some ⟨0x00, 0x00, 0x00, 0xFD, 0xA4, 0x8004, .running, []⟩ := by decide

theorem test_bne_J5 :
    outcome [] { S0 [0xD0, 0x80] with p := 0x24 } =
    some ⟨0x00, 0x00, 0x00, 0xFD, 0x24, 0x7F82, .running, []⟩ := by decide

theorem test_bpl_J6 :
    outcome [] { S0 [0x10, 0x05] with p := 0xA4 } =
    some ⟨0x00, 0x00, 0x00, 0xFD, 0xA4, 0x8002, .running, []⟩ := by decide

theorem test_brk_Z1 :
    outcome [] (S0 [0x00]) =
    some ⟨0x00, 0x00, 0x00, 0xFD, 0x34, 0x8001, .halted .brk, []⟩ := by decide

theorem test_brk_Z2 :
    outcome [] { S0 [0x00] with p := 0x34 } =
    some ⟨0x00, 0x00, 0x00, 0xFD, 0x34, 0x8001, .halted .brk, []⟩ := by decide

theorem test_bvc_J8 :
    outcome [] { S0 [0x50, 0x00] with p := 0x24 } =
    some ⟨0x00, 0x00, 0x00, 0xFD, 0x24, 0x8002, .running, []⟩ := by decide

theorem test_bvs_J9 :
    outcome [] { S0 [0x70, 0x03] with p := 0x64 } =
    some ⟨0x00, 0x00, 0x00, 0xFD, 0x64, 0x8005, .running, []⟩ := by decide

theorem test_clc_F2 :
    outcome [] { S0 [0x18] with p := 0xE7 } =
    some ⟨0x00, 0x00, 0x00, 0xFD, 0xE6, 0x8001, .running, []⟩ := by decide

theorem test_cld_F6 :
    outcome [] { S0 [0xD8] with p := 0x2C } =
    some ⟨0x00, 0x00, 0x00, 0xFD, 0x24, 0x8001, .running, []⟩ := by decide

theorem test_cli_F4 :
    outcome [] { S0 [0x58] with p := 0x24 } =
    some ⟨0x00, 0x00, 0x00, 0xFD, 0x20, 0x8001, .running, []⟩ := by decide

theorem test_clv_F7 :
    outcome [] { S0 [0xB8] with p := 0x64 } =
    some ⟨0x00, 0x00, 0x00, 0xFD, 0x24, 0x8001, .running, []⟩ := by decide

theorem test_cmpImmediate_K1 :
    outcome [] { S0 [0xC9, 0x40] with a := 0x40 } =
    some ⟨0x40, 0x00, 0x00, 0xFD, 0x27, 0x8002, .running, []⟩ := by decide

theorem test_cmpImmediate_K4 :
    outcome [] { S0 [0xC9, 0x80] with a := 0x00 } =
    some ⟨0x00, 0x00, 0x00, 0xFD, 0xA4, 0x8002, .running, []⟩ := by decide

theorem test_cpxImmediate_K5 :
    outcome [] { S0 [0xE0, 0xFF] with x := 0xFF } =
    some ⟨0x00, 0xFF, 0x00, 0xFD, 0x27, 0x8002, .running, []⟩ := by decide

theorem test_cpyImmediate_K6 :
    outcome [] { S0 [0xC0, 0x10] with y := 0x00 } =
    some ⟨0x00, 0x00, 0x00, 0xFD, 0xA4, 0x8002, .running, []⟩ := by decide

theorem test_dcpZeroPage_U5 :
    outcome [0x0010] (withRam { S0 [0xC7, 0x10] with a := 0x40 } [(0x0010, 0x41)]) =
    some ⟨0x40, 0x00, 0x00, 0xFD, 0x27, 0x8002, .running, [0x40]⟩ := by decide

theorem test_dcpZeroPage_U6 :
    outcome [0x0010] (withRam { S0 [0xC7, 0x10] with a := 0xFF } [(0x0010, 0x00)]) =
    some ⟨0xFF, 0x00, 0x00, 0xFD, 0x27, 0x8002, .running, [0xFF]⟩ := by decide

theorem test_decZeroPage_I3 :
    outcome [0x0010] (withRam (S0 [0xC6, 0x10]) [(0x0010, 0x00)]) =
    some ⟨0x00, 0x00, 0x00, 0xFD, 0xA4, 0x8002, .running, [0xFF]⟩ := by decide

theorem test_decZeroPage_I4 :
    outcome [0x0010] (withRam (S0 [0xC6, 0x10]) [(0x0010, 0x01)]) =
    some ⟨0x00, 0x00, 0x00, 0xFD, 0x26, 0x8002, .running, [0x00]⟩ := by decide

theorem test_dex_I7 :
    outcome [] { S0 [0xCA] with x := 0x00 } =
    some ⟨0x00, 0xFF, 0x00, 0xFD, 0xA4, 0x8001, .running, []⟩ := by decide

theorem test_dey_I8 :
    outcome [] { S0 [0x88] with y := 0x01 } =
    some ⟨0x00, 0x00, 0x00, 0xFD, 0x26, 0x8001, .running, []⟩ := by decide

theorem test_eorImmediate_G5 :
    outcome [] { S0 [0x49, 0xFF] with a := 0xFF } =
    some ⟨0x00, 0x00, 0x00, 0xFD, 0x26, 0x8002, .running, []⟩ := by decide

theorem test_eorImmediate_G6 :
    outcome [] { S0 [0x49, 0x0F] with a := 0x8F } =
    some ⟨0x80, 0x00, 0x00, 0xFD, 0xA4, 0x8002, .running, []⟩ := by decide

theorem test_incZeroPage_I1 :
    outcome [0x0010] (withRam (S0 [0xE6, 0x10]) [(0x0010, 0xFF)]) =
    some ⟨0x00, 0x00, 0x00, 0xFD, 0x26, 0x8002, .running, [0x00]⟩ := by decide

theorem test_incZeroPage_I2 :
    outcome [0x0010] (withRam (S0 [0xE6, 0x10]) [(0x0010, 0x7F)]) =
    some ⟨0x00, 0x00, 0x00, 0xFD, 0xA4, 0x8002, .running, [0x80]⟩ := by decide

theorem test_inx_I5 :
    outcome [] { S0 [0xE8] with x := 0xFF } =
    some ⟨0x00, 0x00, 0x00, 0xFD, 0x26, 0x8001, .running, []⟩ := by decide

theorem test_iny_I6 :
    outcome [] { S0 [0xC8] with y := 0x7F } =
    some ⟨0x00, 0x00, 0x80, 0xFD, 0xA4, 0x8001, .running, []⟩ := by decide

theorem test_iscZeroPage_U7 :
    outcome [0x0010] (withRam { S0 [0xE7, 0x10] with a := 0x10, p := 0x25 } [(0x0010, 0x0F)]) =
    some ⟨0x00, 0x00, 0x00, 0xFD, 0x27, 0x8002, .running, [0x10]⟩ := by decide

theorem test_iscZeroPage_U8 :
    outcome [0x0010] (withRam { S0 [0xE7, 0x10] with a := 0x00, p := 0x25 } [(0x0010, 0xFF)]) =
    some ⟨0x00, 0x00, 0x00, 0xFD, 0x27, 0x8002, .running, [0x00]⟩ := by decide

theorem test_jmpIndirect_M16 :
    outcome [] (withRam (S0 [0x6C, 0xFF, 0x02]) [(0x02FF, 0x40), (0x0200, 0x50), (0x0300, 0x60)]) =
    some ⟨0x00, 0x00, 0x00, 0xFD, 0x24, 0x5040, .running, []⟩ := by decide

theorem test_jmpAbsolute_J12 :
    outcome [] (S0 [0x4C, 0x01, 0x80]) =
    some ⟨0x00, 0x00, 0x00, 0xFD, 0x24, 0x8003, .running, []⟩ := by decide

theorem test_jsrAbsolute_Q1 :
    outcome [0x01FD, 0x01FC] (S0 [0x20, 0x00, 0x06]) =
    some ⟨0x00, 0x00, 0x00, 0xFB, 0x24, 0x0600, .running, [0x80, 0x02]⟩ := by decide

theorem test_jsrAbsolute_Q2 :
    outcome [0x0100, 0x01FF] { S0 [0x20, 0x00, 0x06] with sp := 0x00 } =
    some ⟨0x00, 0x00, 0x00, 0xFE, 0x24, 0x0600, .running, [0x80, 0x02]⟩ := by decide

theorem test_kil02_Z3 :
    outcome [] { S0 [0x02] with a := 0x01 } =
    some ⟨0x01, 0x00, 0x00, 0xFD, 0x24, 0x8001, .halted .kil, []⟩ := by decide

theorem test_kilF2_Z5 :
    outcome [] (S0 [0xF2]) =
    some ⟨0x00, 0x00, 0x00, 0xFD, 0x24, 0x8001, .halted .kil, []⟩ := by decide

theorem test_lasAbsoluteY_U22 :
    outcome [] (withRam (S0 [0xBB, 0x00, 0x03]) [(0x0300, 0x3F)]) =
    some ⟨0x3D, 0x3D, 0x00, 0x3D, 0x24, 0x8003, .running, []⟩ := by decide

theorem test_laxZeroPage_U1 :
    outcome [] (withRam (S0 [0xA7, 0x10]) [(0x0010, 0x80)]) =
    some ⟨0x80, 0x80, 0x00, 0xFD, 0xA4, 0x8002, .running, []⟩ := by decide

theorem test_laxIndirectY_U2 :
    outcome [] (withRam { S0 [0xB3, 0x20] with y := 0x01 } [(0x0020, 0xFF), (0x0021, 0x02), (0x0300, 0x00)]) =
    some ⟨0x00, 0x00, 0x01, 0xFD, 0x26, 0x8002, .running, []⟩ := by decide

theorem test_ldaIndirectY_M7 :
    outcome [] (withRam { S0 [0xB1, 0xFF] with y := 0x01 } [(0x00FF, 0x00), (0x0000, 0x03), (0x0301, 0x11)]) =
    some ⟨0x11, 0x00, 0x01, 0xFD, 0x24, 0x8002, .running, []⟩ := by decide

theorem test_ldaAbsolute_M12 :
    outcome [] (S0 [0xAD, 0x00, 0x80]) =
    some ⟨0xAD, 0x00, 0x00, 0xFD, 0xA4, 0x8003, .running, []⟩ := by decide

theorem test_ldxZeroPageY_M2 :
    outcome [] (withRam { S0 [0xB6, 0x10] with y := 0xF5 } [(0x0005, 0x01)]) =
    some ⟨0x00, 0x01, 0xF5, 0xFD, 0x24, 0x8002, .running, []⟩ := by decide

theorem test_ldxZeroPageY_M3 :
    outcome [] (withRam { S0 [0xB6, 0x80] with y := 0x80 } [(0x0000, 0x09)]) =
    some ⟨0x00, 0x09, 0x80, 0xFD, 0x24, 0x8002, .running, []⟩ := by decide

theorem test_ldyAbsoluteX_M5 :
    outcome [] (withRam { S0 [0xBC, 0xFF, 0x07] with x := 0x01 } [(0x0000, 0x44)]) =
    some ⟨0x00, 0x01, 0x44, 0xFD, 0x24, 0x8003, .running, []⟩ := by decide

theorem test_ldyImmediate_L3 :
    outcome [] (S0 [0xA0, 0xFF]) =
    some ⟨0x00, 0x00, 0xFF, 0xFD, 0xA4, 0x8002, .running, []⟩ := by decide

theorem test_lsrAccumulator_H4 :
    outcome [] { S0 [0x4A] with a := 0x01 } =
    some ⟨0x00, 0x00, 0x00, 0xFD, 0x27, 0x8001, .running, []⟩ := by decide

theorem test_lsrZeroPage_H5 :
    outcome [0x0010] (withRam { S0 [0x46, 0x10] with p := 0xA5 } [(0x0010, 0xFE)]) =
    some ⟨0x00, 0x00, 0x00, 0xFD, 0x24, 0x8002, .running, [0x7F]⟩ := by decide

theorem test_lxaImmediate_U20 :
    outcome [] { S0 [0xAB, 0x5A] with a := 0x12 } =
    some ⟨0x5A, 0x5A, 0x00, 0xFD, 0x24, 0x8002, .running, []⟩ := by decide

theorem test_nop1A_U28 :
    outcome [] { S0 [0x1A] with a := 0x05, p := 0xE7 } =
    some ⟨0x05, 0x00, 0x00, 0xFD, 0xE7, 0x8001, .running, []⟩ := by decide

theorem test_nopAbsolute_U31 :
    outcome [] (S0 [0x0C, 0x00, 0x80]) =
    some ⟨0x00, 0x00, 0x00, 0xFD, 0x24, 0x8003, .running, []⟩ := by decide

theorem test_oraImmediate_G3 :
    outcome [] { S0 [0x09, 0x00] with a := 0x00 } =
    some ⟨0x00, 0x00, 0x00, 0xFD, 0x26, 0x8002, .running, []⟩ := by decide

theorem test_oraImmediate_G4 :
    outcome [] { S0 [0x09, 0x80] with a := 0x01 } =
    some ⟨0x81, 0x00, 0x00, 0xFD, 0xA4, 0x8002, .running, []⟩ := by decide

theorem test_pha_P1 :
    outcome [0x01FD] { S0 [0x48] with a := 0x77 } =
    some ⟨0x77, 0x00, 0x00, 0xFC, 0x24, 0x8001, .running, [0x77]⟩ := by decide

theorem test_pha_P2 :
    outcome [0x0100] { S0 [0x48] with a := 0x77, sp := 0x00 } =
    some ⟨0x77, 0x00, 0x00, 0xFF, 0x24, 0x8001, .running, [0x77]⟩ := by decide

theorem test_php_P5 :
    outcome [0x01FD] { S0 [0x08] with p := 0xC3 } =
    some ⟨0x00, 0x00, 0x00, 0xFC, 0xC3, 0x8001, .running, [0xF3]⟩ := by decide

theorem test_pla_P3 :
    outcome [] (withRam { S0 [0x68] with sp := 0xFC } [(0x01FD, 0x80)]) =
    some ⟨0x80, 0x00, 0x00, 0xFD, 0xA4, 0x8001, .running, []⟩ := by decide

theorem test_pla_P8 :
    outcome [] (withRam { S0 [0x68] with sp := 0xFC, a := 0x05 } [(0x01FD, 0x00)]) =
    some ⟨0x00, 0x00, 0x00, 0xFD, 0x26, 0x8001, .running, []⟩ := by decide

theorem test_plp_P6 :
    outcome [] (withRam { S0 [0x28] with sp := 0xFC } [(0x01FD, 0xFF)]) =
    some ⟨0x00, 0x00, 0x00, 0xFD, 0xEF, 0x8001, .running, []⟩ := by decide

theorem test_plp_P7 :
    outcome [] (withRam { S0 [0x28] with sp := 0xFC } [(0x01FD, 0x00)]) =
    some ⟨0x00, 0x00, 0x00, 0xFD, 0x20, 0x8001, .running, []⟩ := by decide

theorem test_rlaZeroPage_U10 :
    outcome [0x0010] (withRam { S0 [0x27, 0x10] with a := 0xFF, p := 0x25 } [(0x0010, 0x80)]) =
    some ⟨0x01, 0x00, 0x00, 0xFD, 0x25, 0x8002, .running, [0x01]⟩ := by decide

theorem test_rolAccumulator_H6 :
    outcome [] { S0 [0x2A] with a := 0x80, p := 0x25 } =
    some ⟨0x01, 0x00, 0x00, 0xFD, 0x25, 0x8001, .running, []⟩ := by decide

theorem test_rolAccumulator_H7 :
    outcome [] { S0 [0x2A] with a := 0x40 } =
    some ⟨0x80, 0x00, 0x00, 0xFD, 0xA4, 0x8001, .running, []⟩ := by decide

theorem test_rorAccumulator_H8 :
    outcome [] { S0 [0x6A] with a := 0x01, p := 0x25 } =
    some ⟨0x80, 0x00, 0x00, 0xFD, 0xA5, 0x8001, .running, []⟩ := by decide

theorem test_rorZeroPage_H9 :
    outcome [0x0010] (withRam (S0 [0x66, 0x10]) [(0x0010, 0x02)]) =
    some ⟨0x00, 0x00, 0x00, 0xFD, 0x24, 0x8002, .running, [0x01]⟩ := by decide

theorem test_rraZeroPage_U12 :
    outcome [0x0010] (withRam { S0 [0x67, 0x10] with a := 0x10 } [(0x0010, 0x03)]) =
    some ⟨0x12, 0x00, 0x00, 0xFD, 0x24, 0x8002, .running, [0x01]⟩ := by decide

theorem test_rti_R1 :
    outcome [] (withRam { S0 [0x40] with sp := 0xFA } [(0x01FB, 0xDB), (0x01FC, 0x00), (0x01FD, 0x06)]) =
    some ⟨0x00, 0x00, 0x00, 0xFD, 0xDB, 0x0600, .running, []⟩ := by decide

theorem test_rti_R2 :
    outcome [] (withRam { S0 [0x40] with sp := 0xFA } [(0x01FB, 0x00), (0x01FC, 0x34), (0x01FD, 0x12)]) =
    some ⟨0x00, 0x00, 0x00, 0xFD, 0x00, 0x1234, .running, []⟩ := by decide

theorem test_rts_Q3 :
    outcome [] (withRam { S0 [0x60] with sp := 0xFB } [(0x01FC, 0x02), (0x01FD, 0x06)]) =
    some ⟨0x00, 0x00, 0x00, 0xFD, 0x24, 0x0603, .running, []⟩ := by decide

theorem test_rts_Q4 :
    outcome [] (withRam { S0 [0x60] with sp := 0xFB } [(0x01FC, 0xFF), (0x01FD, 0xFF)]) =
    some ⟨0x00, 0x00, 0x00, 0xFD, 0x24, 0x0000, .running, []⟩ := by decide

theorem test_saxZeroPage_U3 :
    outcome [0x0010] { S0 [0x87, 0x10] with a := 0xF0, x := 0x3C, p := 0xA4 } =
    some ⟨0xF0, 0x3C, 0x00, 0xFD, 0xA4, 0x8002, .running, [0x30]⟩ := by decide

theorem test_saxZeroPageY_U4 :
    outcome [0x0001] { S0 [0x97, 0xFF] with a := 0xFF, x := 0x0F, y := 0x02 } =
    some ⟨0xFF, 0x0F, 0x02, 0xFD, 0x24, 0x8002, .running, [0x0F]⟩ := by decide

theorem test_sbcImmediateE9_B4 :
    outcome [] { S0 [0xE9, 0x00] with a := 0x00, p := 0x24 } =
    some ⟨0xFF, 0x00, 0x00, 0xFD, 0xA4, 0x8002, .running, []⟩ := by decide

theorem test_sbcImmediateEB_B7 :
    outcome [] { S0 [0xEB, 0x01] with a := 0x80, p := 0x25 } =
    some ⟨0x7F, 0x00, 0x00, 0xFD, 0x65, 0x8002, .running, []⟩ := by decide

theorem test_sec_F1 :
    outcome [] { S0 [0x38] with p := 0x24 } =
    some ⟨0x00, 0x00, 0x00, 0xFD, 0x25, 0x8001, .running, []⟩ := by decide

theorem test_sed_F5 :
    outcome [] { S0 [0xF8] with p := 0x24 } =
    some ⟨0x00, 0x00, 0x00, 0xFD, 0x2C, 0x8001, .running, []⟩ := by decide

theorem test_sei_F3 :
    outcome [] { S0 [0x78] with p := 0x20 } =
    some ⟨0x00, 0x00, 0x00, 0xFD, 0x24, 0x8001, .running, []⟩ := by decide

theorem test_shaAbsoluteY_U24 :
    outcome [0x0202] { S0 [0x9F, 0x00, 0x02] with a := 0xFF, x := 0xFF, y := 0x02 } =
    some ⟨0xFF, 0xFF, 0x02, 0xFD, 0x24, 0x8003, .running, [0x03]⟩ := by decide

theorem test_shaIndirectY_U25 :
    outcome [0x0202] (withRam { S0 [0x93, 0x20] with a := 0xFF, x := 0xFF, y := 0x02 } [(0x0020, 0x00), (0x0021, 0x02)]) =
    some ⟨0xFF, 0xFF, 0x02, 0xFD, 0x24, 0x8002, .running, [0x03]⟩ := by decide

theorem test_shxAbsoluteY_U26 :
    outcome [0x0600] { S0 [0x9E, 0x00, 0x06] with x := 0xFF } =
    some ⟨0x00, 0xFF, 0x00, 0xFD, 0x24, 0x8003, .running, [0x07]⟩ := by decide

theorem test_shxAbsoluteY_E4 :
    faultOf { S0 [0x9E, 0xFF, 0x7F] with x := 0xFF, y := 0x01 } = some (.romWrite 0x9E 0x8000 0x8000) := by decide

theorem test_shyAbsoluteX_U27 :
    outcome [0x0110] { S0 [0x9C, 0x00, 0x01] with y := 0xFF, x := 0x10 } =
    some ⟨0x00, 0x10, 0xFF, 0xFD, 0x24, 0x8003, .running, [0x02]⟩ := by decide

theorem test_sloZeroPage_U9 :
    outcome [0x0010] (withRam { S0 [0x07, 0x10] with a := 0x01 } [(0x0010, 0x81)]) =
    some ⟨0x03, 0x00, 0x00, 0xFD, 0x25, 0x8002, .running, [0x02]⟩ := by decide

theorem test_sreZeroPage_U11 :
    outcome [0x0010] (withRam { S0 [0x47, 0x10] with a := 0xFF } [(0x0010, 0x03)]) =
    some ⟨0xFE, 0x00, 0x00, 0xFD, 0xA5, 0x8002, .running, [0x01]⟩ := by decide

theorem test_staZeroPage_L4 :
    outcome [0x0010] { S0 [0x85, 0x10] with a := 0x80, p := 0x26 } =
    some ⟨0x80, 0x00, 0x00, 0xFD, 0x26, 0x8002, .running, [0x80]⟩ := by decide

theorem test_staAbsolute_E1 :
    faultOf { S0 [0x8D, 0x00, 0x80] with a := 0x01 } = some (.romWrite 0x8D 0x8000 0x8000) := by decide

theorem test_stxZeroPageY_L5 :
    outcome [0x0001] { S0 [0x96, 0xFF] with x := 0x11, y := 0x02 } =
    some ⟨0x00, 0x11, 0x02, 0xFD, 0x24, 0x8002, .running, [0x11]⟩ := by decide

theorem test_styAbsolute_L6 :
    outcome [0x0000] { S0 [0x8C, 0x00, 0x08] with y := 0x22 } =
    some ⟨0x00, 0x00, 0x22, 0xFD, 0x24, 0x8003, .running, [0x22]⟩ := by decide

theorem test_styAbsolute_E2 :
    faultOf { S0 [0x8C, 0x00, 0x80] with y := 0x01 } = some (.romWrite 0x8C 0x8000 0x8000) := by decide

theorem test_tasAbsoluteY_U23 :
    outcome [0x0301] { S0 [0x9B, 0x00, 0x03] with a := 0xFF, x := 0x7F, y := 0x01 } =
    some ⟨0xFF, 0x7F, 0x01, 0x7F, 0x24, 0x8003, .running, [0x04]⟩ := by decide

theorem test_tax_T1 :
    outcome [] { S0 [0xAA] with a := 0x00, x := 0x05 } =
    some ⟨0x00, 0x00, 0x00, 0xFD, 0x26, 0x8001, .running, []⟩ := by decide

theorem test_tay_T2 :
    outcome [] { S0 [0xA8] with a := 0xF0 } =
    some ⟨0xF0, 0x00, 0xF0, 0xFD, 0xA4, 0x8001, .running, []⟩ := by decide

theorem test_tsx_T5 :
    outcome [] { S0 [0xBA] with sp := 0xFD } =
    some ⟨0x00, 0xFD, 0x00, 0xFD, 0xA4, 0x8001, .running, []⟩ := by decide

theorem test_txa_T3 :
    outcome [] { S0 [0x8A] with x := 0x80, a := 0x01 } =
    some ⟨0x80, 0x80, 0x00, 0xFD, 0xA4, 0x8001, .running, []⟩ := by decide

theorem test_txs_T6 :
    outcome [] { S0 [0x9A] with x := 0x00 } =
    some ⟨0x00, 0x00, 0x00, 0x00, 0x24, 0x8001, .running, []⟩ := by decide

theorem test_tya_T4 :
    outcome [] { S0 [0x98] with y := 0x00 } =
    some ⟨0x00, 0x00, 0x00, 0xFD, 0x26, 0x8001, .running, []⟩ := by decide

theorem test_xaaImmediate_U21 :
    outcome [] { S0 [0x8B, 0xF5] with x := 0x0F } =
    some ⟨0x05, 0x0F, 0x00, 0xFD, 0x24, 0x8002, .running, []⟩ := by decide

/-! ### Faults, policy, fetching, host operations -/

/-- R284: no result under the policy `refuse`; the record names the opcode byte at 0x8000. -/
theorem test_unstable_refused :
    (match step { S0 [0x8B, 0xF5] with policy := .refuse } with
      | .refused (.unstableOpcode 0x8B 0x8000) => true
      | _ => false) = true := by decide

/-- R64, D1: an instruction at 0xFFFF continues at 0x0000. -/
theorem test_fetch_wraps :
    outcome [] { State.reset with mem := [(0x0000, 0x42), (0xFFFF, 0xA9)], pc := 0xFFFF } =
    some ⟨0x42, 0x00, 0x00, 0xFD, 0x24, 0x0001, .running, []⟩ := by decide

/-- R61, R62: the PPU window reads 0x00, so a fetch there reads BRK. -/
theorem test_fetch_ppu_reads_brk :
    outcome [] { State.reset with pc := 0x2000 } =
    some ⟨0x00, 0x00, 0x00, 0xFD, 0x34, 0x2001, .halted .brk, []⟩ := by decide

/-- R59: a 16 KB image is mirrored into the upper half. -/
theorem test_rom_16k_mirror :
    { State.reset with prgSize := .bank16K, mem := [(0x8123, 0x77)] }.readByte 0xC123 = 0x77 := by
  decide

/-- The next step runs the placed instruction: LDA #$05 (S1 of spec/95_test_vectors.md). -/
theorem test_withFetchWord :
    outcome [] (State.reset.withFetchWord 16 0x05A9) =
    some ⟨0x05, 0x00, 0x00, 0xFD, 0x24, 0x0002, .running, []⟩ := by decide

/-- R330: `reset()` from a halted engine. -/
theorem test_host_reset :
    (match hostReset { S0 [0xA9] with a := 0x12, sp := 0x34, p := 0xFF, run := .halted .kil } with
      | .next t => decide (t.a = 0x00 ∧ t.sp = 0xFD ∧ t.p = 0x24 ∧ t.pc = 0x8000 ∧ t.run = .running)
      | _ => false) = true := by decide

/-- R332: `load` puts the program at 0x8000 and the vector at 0xFFFC, and keeps RAM. -/
theorem test_host_load :
    (match hostLoad [0xA9, 0x05] (withRam State.reset [(0x10, 0x77)]) with
      | .next t => decide (t.readByte 0x8001 = 0x05 ∧ t.readWord 0xFFFC = 0x8000 ∧ t.readByte 0x10 = 0x77)
      | _ => false) = true := by decide

/-- D5, D20: an empty ROM image is refused, and a new engine takes no step before its first reset. -/
theorem test_host_new_then_step :
    (match hostNew [] (fun _ => 0) .fusion 0 with
      | .refused (.romSize 0) => true
      | _ => false) = true ∧
    (match step { State.reset with resetDone := false } with
      | .refused .beforeReset => true
      | _ => false) = true := by decide

/-- S1 of spec/95_test_vectors.md section 2, through `load_and_run`: the observer is called twice. -/
theorem test_host_load_and_run :
    (match hostLoadAndRun [0xA9, 0x05, 0x00] 2 State.reset with
      | .stopped t seen => decide (t.a = 0x05 ∧ t.p = 0x34 ∧ t.pc = 0x8003 ∧ t.run = .halted .brk ∧
          seen.length = 2)
      | _ => false) = true := by decide

/-- R305: a fault leaves the engine Faulted with its record (vector E1). -/
theorem test_fault_record :
    ((S0 [0x8D, 0x00, 0x80]).enterFaulted (.romWrite 0x8D 0x8000 0x8000)).run =
      .faulted (.romWrite 0x8D 0x8000 0x8000) := rfl

/-- R177: 0x80 with C = 0 gives 0x00, C = 1, Z = 1, in RAM. -/
theorem test_rolZeroPage :
    outcome [0x0010] (withRam (S0 [0x26, 0x10]) [(0x0010, 0x80)]) =
    some ⟨0x00, 0x00, 0x00, 0xFD, 0x27, 0x8002, .running, [0x00]⟩ := by decide

/-- R175 to R180: ASL, LSR, ROL, ROR, INC and DEC of 0x8000 raise RomWrite. -/
theorem test_read_modify_write_rom_faults :
    ([0x0E, 0x4E, 0x2E, 0x6E, 0xEE, 0xCE].all fun op =>
      faultOf (S0 [op, 0x00, 0x80]) == some (.romWrite op 0x8000 0x8000)) = true := by decide

/-- R53, R60 at the edges of word writes: the high byte of a word at 0x7FFF faults at 0x8000, the high byte at
0x2000 is ignored. -/
theorem test_word_write_edges :
    (match writeWord 0x85 0x7FFF 0xABCD (S0 []) with
      | .fault (.romWrite 0x85 0x7FFF 0x8000) => true
      | _ => false) = true ∧
    (match writeWord 0x85 0x1FFF 0xABCD (S0 []) with
      | .next t => decide (t.readByte 0x07FF = 0xCD ∧ t.readByte 0x0000 = 0x00)
      | _ => false) = true := by decide

/-! ### Witnesses: each statement's hypotheses are met, clause by clause -/

theorem witness_LoadsReadOperandIntoRegister :
    Instr.ldaIndirectY 0x20 ∈ formsLDA 0x20 0x0300 ∧ Instr.ldxAbsoluteY 0x0300 ∈ formsLDX 0x20 0x0300 ∧
    Instr.ldyZeroPageX 0x20 ∈ formsLDY 0x20 0x0300 := by simp [formsLDA, formsLDX, formsLDY]

/-- Both sides of the ROM boundary. -/
theorem witness_StoresWriteRegisterToOperand :
    Memory.wf State.reset.mem = true ∧ Instr.staAbsolute 0x7FFF ∈ formsSTA 0x20 0x7FFF ∧
    resolve (Instr.staAbsolute 0x7FFF).operand State.reset = some 0x7FFF ∧
    resolve (Instr.staAbsolute 0x8000).operand State.reset = some 0x8000 ∧
    Instr.stxZeroPageY 0x20 ∈ formsSTX 0x20 0x7FFF ∧ Instr.styAbsolute 0x7FFF ∈ formsSTY 0x20 0x7FFF := by
  refine ⟨rfl, ?_, rfl, rfl, ?_, ?_⟩ <;> simp [formsSTA, formsSTX, formsSTY]

theorem witness_AdcAddsWithCarry : Instr.adcImmediate 0x7F ∈ formsADC 0x7F 0x0300 := by simp [formsADC]

theorem witness_SbcSubtractsWithBorrow : Instr.sbcImmediateE9 0x7F ∈ formsSBC 0x7F 0x0300 := by
  simp [formsSBC]

theorem witness_AdcThenSbcRestoresA : ∃ t, exec (.adcImmediate 0xFF) { State.reset with a := 0x80 } = .next t :=
  ⟨_, rfl⟩

theorem witness_LogicalOpsCombineWithA :
    Instr.andAbsoluteX 0x0300 ∈ formsAND 0x20 0x0300 ∧ Instr.oraImmediate 0x20 ∈ formsORA 0x20 0x0300 ∧
    Instr.eorIndirectX 0x20 ∈ formsEOR 0x20 0x0300 := by simp [formsAND, formsORA, formsEOR]

theorem witness_ShiftsMoveOneBit :
    Memory.wf State.reset.mem = true ∧ Instr.aslAbsolute 0x7FFF ∈ formsASL 0x20 0x7FFF ∧
    resolve (Instr.aslAbsolute 0x7FFF).operand State.reset = some 0x7FFF ∧
    resolve (Instr.aslAbsolute 0x8000).operand State.reset = some 0x8000 ∧
    Instr.lsrZeroPage 0x20 ∈ formsLSR 0x20 0x7FFF ∧ Instr.rolZeroPageX 0x20 ∈ formsROL 0x20 0x7FFF ∧
    Instr.rorAbsoluteX 0x7FFF ∈ formsROR 0x20 0x7FFF := by
  refine ⟨rfl, ?_, rfl, rfl, ?_, ?_, ?_⟩ <;> simp [formsASL, formsLSR, formsROL, formsROR]

theorem witness_IncrementsAndDecrementsWrap :
    Memory.wf State.reset.mem = true ∧ Instr.incAbsolute 0x7FFF ∈ formsINC 0x20 0x7FFF ∧
    resolve (Instr.incAbsolute 0x7FFF).operand State.reset = some 0x7FFF ∧
    resolve (Instr.decAbsolute 0x8000).operand State.reset = some 0x8000 ∧
    Instr.decAbsolute 0x8000 ∈ formsDEC 0x20 0x8000 := by
  refine ⟨rfl, ?_, rfl, rfl, ?_⟩ <;> simp [formsINC, formsDEC]

theorem witness_ComparesSetFlagsOnly :
    Instr.cmpImmediate 0x80 ∈ formsCMP 0x80 0x0300 ∧ Instr.cpxZeroPage 0x80 ∈ formsCPX 0x80 0x0300 ∧
    Instr.cpyAbsolute 0x0300 ∈ formsCPY 0x80 0x0300 := by simp [formsCMP, formsCPX, formsCPY]

theorem witness_BitTestsOperandBits : Instr.bitAbsolute 0x0300 ∈ formsBIT 0x20 0x0300 := by simp [formsBIT]

/-- A branch stands at PC, with offset 0xFF and with another one; taken and not taken. -/
theorem witness_BranchStepEndsAtTargetOrNext :
    Fetches (.beq 0xFF) { S0 [0xF0, 0xFF] with p := 0x26 } ∧ Fetches (.bne 0x80) (S0 [0xD0, 0x80]) ∧
    Fetches (.bcs 0x05) (S0 [0xB0, 0x05]) :=
  ⟨⟨rfl, rfl, rfl⟩, ⟨rfl, rfl, rfl⟩, ⟨rfl, rfl, rfl⟩⟩

/-- JMP stands at PC, with `snap` as its target and with another one. -/
theorem witness_JumpsSetPC :
    Fetches (.jmpAbsolute 0x8001) (S0 [0x4C, 0x01, 0x80]) ∧
    Fetches (.jmpAbsolute 0x8005) (S0 [0x4C, 0x05, 0x80]) ∧
    (Fetches (.jmpIndirect 0x02FF) (S0 [0x6C, 0xFF, 0x02]) ∧
      resolve (.indirect 0x02FF) (S0 [0x6C, 0xFF, 0x02]) = some 0x0000) ∧
    (Fetches (.jmpIndirect 0x02FF) (withRam (S0 [0x6C, 0xFF, 0x02]) [(0x2FF, 0x01), (0x200, 0x80)]) ∧
      resolve (.indirect 0x02FF) (withRam (S0 [0x6C, 0xFF, 0x02]) [(0x2FF, 0x01), (0x200, 0x80)]) =
        some 0x8001) :=
  ⟨⟨rfl, rfl, rfl⟩, ⟨rfl, rfl, rfl⟩, ⟨⟨rfl, rfl, rfl⟩, rfl⟩, ⟨⟨rfl, rfl, rfl⟩, rfl⟩⟩

/-- Each transfer stands at PC; a branch with offset 0xFF is taken. -/
theorem witness_TransferToSnapFallsThrough :
    (Fetches (.beq 0xFF) { S0 [0xF0, 0xFF] with p := 0x26 } ∧
      { S0 [0xF0, 0xFF] with p := 0x26 }.flag .Z = true) ∧
    Fetches (.jmpAbsolute 0x8001) (S0 [0x4C, 0x01, 0x80]) ∧
    (Fetches (.jmpIndirect 0x02FF) (S0 [0x6C, 0xFF, 0x02]) ∧
      resolve (.indirect 0x02FF) (S0 [0x6C, 0xFF, 0x02]) = some 0x0000) ∧
    Fetches (.jsrAbsolute 0x8001) (S0 [0x20, 0x01, 0x80]) ∧
    Fetches .rts (S0 [0x60]) ∧ Fetches .rti (S0 [0x40]) :=
  ⟨⟨⟨rfl, rfl, rfl⟩, rfl⟩, ⟨rfl, rfl, rfl⟩, ⟨⟨rfl, rfl, rfl⟩, rfl⟩, ⟨rfl, rfl, rfl⟩, ⟨rfl, rfl, rfl⟩,
    ⟨rfl, rfl, rfl⟩⟩

/-- Every branch is met: the list has the branch with its flag. -/
theorem witness_BranchesTestOneFlag :
    (Instr.bvs 0x80, Flag.V, true) ∈
      [(Instr.bcc 0x80, Flag.C, false), (.bcs 0x80, .C, true), (.beq 0x80, .Z, true),
        (.bne 0x80, .Z, false), (.bpl 0x80, .N, false), (.bmi 0x80, .N, true), (.bvc 0x80, .V, false),
        (.bvs 0x80, .V, true)] := by simp

theorem witness_FlagOpsWriteOneFlag :
    (Instr.clv, Flag.V, false) ∈
      [(Instr.sec, Flag.C, true), (.clc, .C, false), (.sei, .I, true), (.cli, .I, false),
        (.sed, .D, true), (.cld, .D, false), (.clv, .V, false)] := by simp

theorem witness_ImmediateFusionsComputeTheirResults :
    Instr.ancImmediate2B 0x7F ∈ [Instr.ancImmediate0B 0x7F, .ancImmediate2B 0x7F] := by simp

/-- PLP's flags other than B and U. -/
theorem witness_PullsReadStackPage : Flag.C ≠ Flag.B ∧ Flag.C ≠ Flag.U := by decide

/-- SP = 0x00: the second push wraps within the stack page. -/
theorem witness_JsrPushesReturnAddress : Memory.wf { State.reset with sp := 0x00 }.mem = true := rfl

theorem witness_StackRoundTrips :
    Memory.wf { State.reset with sp := 0x00 }.mem = true ∧
    ∃ t, exec (.jsrAbsolute 0x0600) { State.reset with sp := 0x00 } = .next t := ⟨rfl, _, rfl⟩

theorem witness_PushesWriteStackPage :
    Memory.wf State.reset.mem = true ∧
    (Instr.php, State.reset.p ||| 0x30) ∈ [(Instr.pha, State.reset.a), (.php, State.reset.p ||| 0x30)] := by
  refine ⟨rfl, ?_⟩; simp

theorem witness_NopsOnlyAdvance :
    (Instr.nopAbsoluteXFC 0x7FFF ∈ formsNOP 0x20 0x7FFF ∧
      Fetches (.nopAbsoluteXFC 0x7FFF) (S0 [0xFC, 0xFF, 0x7F])) ∧
    (Instr.nopEA ∈ formsNOP 0x20 0x7FFF ∧ Fetches .nopEA (S0 [0xEA])) := by
  refine ⟨⟨?_, rfl, rfl, rfl⟩, ?_, rfl, rfl, rfl⟩ <;> simp [formsNOP]

theorem witness_HaltsStopTheEngine :
    Fetches .brk (S0 [0x00]) ∧ Instr.kil02 ∈ formsKIL ∧ Fetches .kil02 (S0 [0x02]) := by
  refine ⟨⟨rfl, rfl, rfl⟩, ?_, rfl, rfl, rfl⟩; simp [formsKIL]

theorem witness_FusedLoadsAndStores :
    Memory.wf State.reset.mem = true ∧ Instr.laxIndirectY 0x20 ∈ formsLAX 0x20 0x7FFF ∧
    Instr.saxAbsolute 0x7FFF ∈ formsSAX 0x20 0x7FFF ∧
    resolve (Instr.saxAbsolute 0x7FFF).operand State.reset = some 0x7FFF ∧
    resolve (Instr.saxAbsolute 0x8000).operand State.reset = some 0x8000 ∧
    Instr.lasAbsoluteY 0x7FFF ∈ formsLAS 0x20 0x7FFF := by
  refine ⟨rfl, ?_, ?_, rfl, rfl, ?_⟩ <;> simp [formsLAX, formsSAX, formsLAS]

theorem witness_FusedIncrementsCompareOrSubtract :
    Memory.wf State.reset.mem = true ∧ Instr.dcpAbsolute 0x7FFF ∈ formsDCP 0x20 0x7FFF ∧
    resolve (Instr.dcpAbsolute 0x7FFF).operand State.reset = some 0x7FFF ∧
    resolve (Instr.iscAbsolute 0x8000).operand State.reset = some 0x8000 ∧
    Instr.iscAbsolute 0x8000 ∈ formsISC 0x20 0x8000 := by
  refine ⟨rfl, ?_, rfl, rfl, ?_⟩ <;> simp [formsDCP, formsISC]

theorem witness_FusedShiftsCombineWithA :
    Memory.wf State.reset.mem = true ∧ Instr.sloAbsolute 0x7FFF ∈ formsSLO 0x20 0x7FFF ∧
    resolve (Instr.sloAbsolute 0x7FFF).operand State.reset = some 0x7FFF ∧
    resolve (Instr.sreAbsolute 0x8000).operand State.reset = some 0x8000 ∧
    Instr.rlaZeroPage 0x20 ∈ formsRLA 0x20 0x7FFF ∧ Instr.sreAbsolute 0x8000 ∈ formsSRE 0x20 0x8000 ∧
    Instr.rraIndirectX 0x20 ∈ formsRRA 0x20 0x7FFF := by
  refine ⟨rfl, ?_, rfl, rfl, ?_, ?_, ?_⟩ <;> simp [formsSLO, formsRLA, formsSRE, formsRRA]

theorem witness_UnstableOpcodesUnderFusion :
    State.reset.policy = .fusion ∧ Memory.wf State.reset.mem = true ∧
    resolve (Instr.shaAbsoluteY 0x7FFF).operand State.reset = some 0x7FFF ∧
    resolve (Instr.tasAbsoluteY 0x8000).operand State.reset = some 0x8000 := ⟨rfl, rfl, rfl, rfl⟩

/-- Both directions are met: a refused opcode, and the condition. -/
theorem witness_RefusedExactlyUnderRefusePolicy :
    (∃ r, exec (.lxaImmediate 0x5A) { State.reset with policy := .refuse } = .refused r) ∧
    { State.reset with policy := .refuse }.policy = .refuse ∧
    (Instr.lxaImmediate 0x5A).opcode ∈ [(0x8B : Byte), 0xAB, 0x93, 0x9F, 0x9E, 0x9C, 0x9B] :=
  ⟨⟨_, rfl⟩, rfl, by decide⟩

theorem witness_RamIsMirroredFourTimes :
    Memory.wf State.reset.mem = true ∧ 0x7FF < 0x800 ∧ 3 < 4 ∧ 0 < 4 ∧
    ∃ t, writeByte 0x85 (BitVec.ofNat 16 (0x7FF + 3 * 0x800)) 0xAB State.reset = .next t :=
  ⟨rfl, by decide, by decide, by decide, _, rfl⟩

/-- The first and the last address of each region. -/
theorem witness_ByteWritesByRegion :
    Memory.wf State.reset.mem = true ∧ (0x1FFF : Addr).toNat < 0x2000 ∧
    (0x2000 ≤ (0x2000 : Addr).toNat ∧ (0x2000 : Addr).toNat < 0x8000) ∧
    (0x2000 ≤ (0x7FFF : Addr).toNat ∧ (0x7FFF : Addr).toNat < 0x8000) ∧
    0x8000 ≤ (0x8000 : Addr).toNat := by decide

theorem witness_ByteReadsByRegion :
    (0x2000 ≤ (0x7FFF : Addr).toNat ∧ (0x7FFF : Addr).toNat < 0x8000) ∧
    ({ State.reset with prgSize := .bank16K }.prgSize = .bank16K ∧ 0xC000 ≤ (0xC000 : Addr).toNat) ∧
    ({ State.reset with prgSize := .bank16K }.prgSize = .bank16K ∧ 0x8000 ≤ (0x8000 : Addr).toNat) ∧
    (State.reset.prgSize = .bank32K ∧ 0x8000 ≤ (0xFFFF : Addr).toNat) := by decide

/-- Each clause at the boundaries of its range: a low byte that goes on and one that faults, the last RAM
words, the PPU window and the unmapped range, and the two sides of the ROM boundary. -/
theorem witness_WordAccessesAreTwoBytes :
    Memory.wf State.reset.mem = true ∧
    (∃ t, writeByte 0x85 0x07FF (BitVec.ofNat 8 ((0xABCD : Addr).toNat % 256)) State.reset = .next t) ∧
    (∃ f, writeByte 0x85 0xFFFF (BitVec.ofNat 8 ((0xABCD : Addr).toNat % 256)) State.reset = .fault f) ∧
    (0x1FFE : Addr).toNat < 0x1FFF ∧ (0x1FFF : Addr).toNat = 0x1FFF ∧
    (0x2000 ≤ (0x2000 : Addr).toNat ∧ (0x2000 : Addr).toNat < 0x7FFF) ∧
    (0x2000 ≤ (0x7FFE : Addr).toNat ∧ (0x7FFE : Addr).toNat < 0x7FFF) ∧
    (0x7FFF : Addr).toNat = 0x7FFF ∧ 0x8000 ≤ (0x8000 : Addr).toNat :=
  ⟨rfl, ⟨_, rfl⟩, ⟨_, rfl⟩, by decide, by decide, by decide, by decide, by decide, by decide⟩

/-- The entries of LDX ZeroPage_Y, JMP Indirect and BNE meet the three uses. -/
theorem witness_ResolverComputesEachNonPointerMode :
    (opTable.any fun e => decide (e.mode = .zeroPageY)) = true ∧
    (opTable.any fun e => decide (e.mode = .indirect)) = true ∧
    (opTable.any fun e => decide (e.mode = .relative)) = true := by decide +kernel

/-- Pointers 0xFF: their high byte is read at 0x0000. -/
theorem witness_ResolverPointerModesStayInPageZero :
    0xFF = (({ State.reset with mem := [(0, 0xFE)], x := 0x01 }.readByte 0).toNat + (0x01 : Byte).toNat) % 256 ∧
    0xFF = ({ State.reset with mem := [(0, 0xFF)] }.readByte State.reset.pc).toNat := by decide

theorem witness_EncodeOfDecodeIsIdentity :
    decode [0x8D, 0x34, 0x12, 0xEA] = .ok (.staAbsolute 0x1234, [0xEA]) := by decide

theorem witness_LengthComesFromOpcodeByte :
    decode (0x8D :: [0x34, 0x12, 0xEA]) = .ok (.staAbsolute 0x1234, [0xEA]) := by decide

/-- A next state, a fault and a refusal of the step's instruction. -/
theorem witness_StepRunsDecodedInstruction :
    ((S0 [0xA9, 0x05]).resetDone = true ∧ (S0 [0xA9, 0x05]).run = .running ∧
      decode [(S0 [0xA9, 0x05]).readByte 0x8000, (S0 [0xA9, 0x05]).readByte 0x8001,
        (S0 [0xA9, 0x05]).readByte 0x8002] = .ok (.ldaImmediate 0x05, [0x00]) ∧
      ∃ t, exec (.ldaImmediate 0x05) ((S0 [0xA9, 0x05]).setPC 0x8001) = .next t) ∧
    (∃ f, exec (.staAbsolute 0x8000) ((S0 [0x8D, 0x00, 0x80]).setPC 0x8001) = .fault f) ∧
    (∃ r, exec (.lxaImmediate 0x5A)
      (({ S0 [0xAB, 0x5A] with policy := .refuse } : State).setPC 0x8001) = .refused r) :=
  ⟨⟨rfl, rfl, by decide, _, rfl⟩, ⟨_, rfl⟩, _, rfl⟩

theorem witness_NoStepFromHaltedOrFaulted :
    { State.reset with run := .halted .brk }.run ≠ .running ∧
    { State.reset with run := .faulted (.romWrite 0x8D 0x8000 0x8000) }.run ≠ .running := by decide

/-- A plain instruction and a halt, each at PC, each with its step. -/
theorem witness_OnlyControlTransfersWritePC :
    (Instr.ldaImmediate 0x05).opcode ∉ controlTransfers ∧ Instr.brk.opcode ∉ controlTransfers ∧
    Fetches (.ldaImmediate 0x05) (S0 [0xA9, 0x05]) ∧ (∃ t, step (S0 [0xA9, 0x05]) = .next t ∧ t.run = .running) ∧
    Fetches .brk (S0 [0x00]) ∧ (∃ t, step (S0 [0x00]) = .next t ∧ t.run ≠ .running) :=
  ⟨by decide, by decide, ⟨rfl, rfl, rfl⟩, ⟨_, rfl, rfl⟩, ⟨rfl, rfl, rfl⟩, _, rfl, by decide⟩

/-- CLD is in the list of the flag D alone, so the other clauses apply to it. -/
theorem witness_OnlyListedInstructionsWriteSPAndFlags :
    (∃ t, exec .cld State.reset = .next t) ∧ opEntry Instr.cld.opcode = some ⟨0xD8, .CLD, .implied, 1, .documented, some 2⟩ ∧
    (∃ t, exec .clc State.reset = .next t) ∧
    opEntry Instr.clc.opcode = some ⟨0x18, .CLC, .implied, 1, .documented, some 2⟩ := ⟨⟨_, rfl⟩, rfl, ⟨_, rfl⟩, rfl⟩

/-- ADC, which would read D if decimal mode existed. -/
theorem witness_InterruptAndDecimalFlagsAreInert :
    (Flag.D = Flag.I ∨ Flag.D = Flag.D) ∧ (S0 [0x69, 0x09]).readByte (S0 [0x69, 0x09]).pc ≠ 0x08 := by decide

theorem witness_FaultsArePrecise :
    step (S0 [0x8D, 0x00, 0x80]) = .fault (.romWrite 0x8D 0x8000 0x8000) := rfl

theorem witness_RomWriteExactlyForWritersIntoRom :
    State.reset.policy = .fusion ∧ (∃ f, exec (.incAbsolute 0x8000) State.reset = .fault f) ∧
    ((Instr.incAbsolute 0x8000).opcode ∈ writesMemory ∧
      resolve (Instr.incAbsolute 0x8000).operand State.reset = some 0x8000) :=
  ⟨rfl, ⟨_, rfl⟩, by decide, rfl⟩

/-- A step that stores: STA $10 with A = 0x99. -/
theorem witness_StepKeepsMemoryInvariant :
    (State.withFetchWord { State.reset with a := 0x99 } 16 0x1085).memOk = true ∧
    ∃ t, step (State.withFetchWord { State.reset with a := 0x99 } 16 0x1085) = .next t := ⟨by decide, _, rfl⟩

theorem witness_StepKeepsRomAndParameters :
    (State.withFetchWord { State.reset with a := 0x99 } 16 0x1085).memOk = true ∧
    ∃ t, step (State.withFetchWord { State.reset with a := 0x99 } 16 0x1085) = .next t := ⟨by decide, _, rfl⟩

theorem witness_RomIsImmutableAlongRuns :
    State.reset.memOk = true ∧ ∃ t, step State.reset = .next t ∧ Reaches State.reset t :=
  ⟨by decide, _, rfl, .step .refl rfl⟩

theorem witness_ResetLeavesSpecifiedState :
    ∀ f, { State.reset with run := .halted .kil }.run ≠ .faulted f := by intro f h; cases h

/-- A program of the greatest length is met too: its length is 0x8000. -/
theorem witness_LoadThenResetBootsProgram :
    State.reset.memOk = true ∧ (∀ f, State.reset.run ≠ .faulted f) ∧
    (List.replicate 0x8000 (0xEA : Byte)).length ≤ 0x8000 := by
  refine ⟨by decide, ?_, ?_⟩
  · intro f h
    cases h
  · rw [List.length_replicate]

theorem witness_HostOperationsRefusedOutOfTurn :
    { State.reset with resetDone := false }.resetDone = false ∧
    { State.reset with run := .faulted (.romWrite 0x8D 0x8000 0x8000) }.run =
      .faulted (.romWrite 0x8D 0x8000 0x8000) ∧
    { State.reset with run := .faulted (.romWrite 0x8D 0x8000 0x8000) }.resetDone = true := ⟨rfl, rfl, rfl⟩

/-- A halted engine, a budget of 0, a step that goes on, a step that faults; runs that halt, fault, use up
their budget and are refused, before a reset and at an unstable opcode. -/
theorem witness_ObserverChangesNothing :
    ({ State.reset with run := .halted .kil }.run ≠ .running) ∧ State.reset.run = .running ∧
    (∃ t, step (S0 [0xEA]) = .next t) ∧ (∃ f, step (S0 [0x8D, 0x00, 0x80]) = .fault f) ∧
    (∃ t, hostRunWithCallback (fun s => s) 1 (S0 [0x00]) = .stopped t [S0 [0x00]]) ∧
    (∃ t, hostRunWithCallback (fun s => s) 1 (S0 [0x8D, 0x00, 0x80]) = .stopped t [S0 [0x8D, 0x00, 0x80]] ∧
      t.run = .faulted (.romWrite 0x8D 0x8000 0x8000)) ∧
    (∃ t, hostRunWithCallback (fun s => s) 1 (S0 [0xEA]) = .outOfBudget t [S0 [0xEA]]) ∧
    (∃ r, hostRunWithCallback (fun s => s) 1 { State.reset with resetDone := false } = .refused r []) ∧
    (∃ r, hostRunWithCallback (fun s => s) 1 { S0 [0xAB, 0x5A] with policy := .refuse } =
      .refused r [{ S0 [0xAB, 0x5A] with policy := .refuse }]) :=
  ⟨by decide, rfl, ⟨_, rfl⟩, ⟨_, rfl⟩, ⟨_, rfl⟩, ⟨_, rfl, rfl⟩, ⟨_, rfl⟩, ⟨_, rfl⟩, _, rfl⟩

end Sys2Proof.Tests
end

section
/-! Family `20_memory.md`: the mirrors of RAM (R58). -/

namespace Sys2Proof.Machine

/-- The address of offset `o` in mirror `j` of RAM. -/
theorem toNat_mirror {o j : Nat} (ho : o < 0x800) (hj : j < 4) :
    (BitVec.ofNat 16 (o + j * 0x800)).toNat = o + j * 0x800 := by
  rw [BitVec.toNat_ofNat]; omega

/-- Each of the four mirrors lies in the RAM window. -/
theorem inRam_mirror {o j : Nat} (ho : o < 0x800) (hj : j < 4) :
    inRam (BitVec.ofNat 16 (o + j * 0x800)) = true := by
  rw [inRam_iff, toNat_mirror ho hj]; omega

/-- Each of the four mirrors reaches the RAM byte at the offset alone (R58). -/
theorem ramKey_mirror {o j : Nat} (ho : o < 0x800) (hj : j < 4) :
    ramKey (BitVec.ofNat 16 (o + j * 0x800)) = o := by
  rw [ramKey_eq, toNat_mirror ho hj]; omega

end Sys2Proof.Machine

namespace Sys2Proof

open Machine

/-- Settles O32: the write is a poke, since a mirror is no ROM address, and both mirrors have the same
RAM key. -/
theorem ramIsMirroredFourTimes : Obligations.RamIsMirroredFourTimes := by
  intro s t op v o j k hwf ho hj hk hw
  have hj' := inRam_mirror ho hj
  have hk' := inRam_mirror ho hk
  have hkey := (ramKey_mirror ho hk).trans (ramKey_mirror ho hj).symm
  rw [writeByte_next (inRom_of_inRam hj')] at hw
  cases hw
  rw [readByte_poke hwf, if_pos ⟨hj', hk', hkey⟩]

end Sys2Proof
end

section
/-! Family `40_engine.md`: words and bytes in numbers (R12, R13), for the address resolver. -/

namespace Sys2Proof

/-- `{h, l}` in numbers (R12). -/
theorem toNat_word (h l : Byte) : (word h l).toNat = l.toNat + 256 * h.toNat := by
  have hl := l.isLt
  rw [word, BitVec.toNat_append, ← Nat.shiftLeft_add_eq_or_of_lt hl, Nat.shiftLeft_eq]
  omega

/-- `{h, l}` as the 16-bit word of its number. -/
theorem word_eq_ofNat (h l : Byte) : word h l = BitVec.ofNat 16 (l.toNat + 256 * h.toNat) := by
  rw [← toNat_word, BitVec.ofNat_toNat, BitVec.setWidth_eq]

/-- The zero extension of a byte is the 16-bit word of its number (R13). -/
theorem zext16_eq_ofNat (b : Byte) : zext16 b = BitVec.ofNat 16 b.toNat :=
  (BitVec.ofNat_toNat 16 b).symm

theorem toNat_zext16 (b : Byte) : (zext16 b).toNat = b.toNat := by
  rw [zext16, BitVec.toNat_setWidth]
  have := b.isLt
  omega

/-- The zero extension of a byte sum, which wraps mod 256 (R110, R111). -/
theorem zext16_add_eq_ofNat (b c : Byte) :
    zext16 (b + c) = BitVec.ofNat 16 ((b.toNat + c.toNat) % 256) := by
  rw [zext16_eq_ofNat, BitVec.toNat_add]

/-- Indexing a word by a byte wraps mod 65536 (R113). -/
theorem add_zext16_eq_ofNat (w : Addr) (b : Byte) :
    w + zext16 b = BitVec.ofNat 16 ((w.toNat + b.toNat) % 65536) := by
  apply BitVec.eq_of_toNat_eq
  rw [BitVec.toNat_add, toNat_zext16, BitVec.toNat_ofNat, Nat.mod_mod]

theorem toNat_lo (w : Addr) : (lo w).toNat = w.toNat % 256 := by simp [lo]

theorem toNat_hi (w : Addr) : (hi w).toNat = w.toNat / 256 := by
  have := w.isLt
  rw [hi, BitVec.extractLsb'_toNat, Nat.shiftRight_eq_div_pow]
  omega

/-- A word is its two bytes concatenated (R12). -/
theorem word_hi_lo (w : Addr) : word (hi w) (lo w) = w := by
  apply BitVec.eq_of_toNat_eq
  rw [toNat_word, toNat_hi, toNat_lo, Nat.mod_add_div]

/-- The masked word with a byte put in its low half is the high byte over that byte. -/
theorem and_high_or_zext16 (w : Addr) (b : Byte) : (w &&& 0xFF00) ||| zext16 b = word (hi w) b := by
  have hmask : (0xFF00 : Addr) = word (BitVec.allOnes 8) 0x00 := rfl
  have hb : zext16 b = word 0x00 b := by rw [word_eq_ofNat]; exact zext16_eq_ofNat b
  conv_lhs => rw [← word_hi_lo w, hmask, hb]
  rw [word, word, word, word, BitVec.and_append, BitVec.or_append, BitVec.and_allOnes]
  simp

/-- The page bug of R114: the address of the pointer's high byte stays in the pointer's page. -/
theorem pageBug_address (w : Addr) :
    (w &&& 0xFF00) ||| zext16 (lo w + 1) = if w.toNat % 256 = 255 then w - 255 else w + 1 := by
  apply BitVec.eq_of_toNat_eq
  rw [and_high_or_zext16, toNat_word, BitVec.toNat_add, toNat_lo, toNat_hi]
  split <;> bv_omega

/-- The target of R117: the offset is signed and counts from the byte after `snap`. -/
theorem branch_target (w : Addr) (off : Byte) :
    w + 1 + sext16 off = BitVec.ofInt 16 (w.toNat + 1 + off.toInt) := by
  rw [sext16, BitVec.signExtend, BitVec.ofInt_add, BitVec.ofInt_add]
  simp

end Sys2Proof
end

section
/-! Family `40_engine.md`: the step of a fetched instruction (R100 to R104), and the instructions that keep
PC (R130). -/

namespace Sys2Proof.Machine

variable {i : Instr} {s u : State} {r : Result}

/-- A step of a fetched instruction: `exec` at `snap`, then the advance (R100 to R104). -/
theorem step_of_fetches (h : Fetches i s) :
    step s = Result.andThen (exec i (s.setPC (s.pc + 1))) (State.advance (s.pc + 1) i.length) := by
  obtain ⟨hreset, hrun, hfetch⟩ := h
  simp only [step, hreset, hrun, hfetch]

/-- What the bytes at `PC` decode to is what is fetched (R101, R102). -/
theorem fetchInstr_of_decode {rest : List Byte}
    (h : decode [s.readByte s.pc, s.readByte (s.pc + 1), s.readByte (s.pc + 2)] = .ok (i, rest)) :
    s.fetchInstr = .ok i := by
  simp only [State.fetchInstr, State.fetchBytes, h]

/-- Every state an operation gives next has the PC of `s`. -/
def KeepsPC (r : Result) (s : State) : Prop := ∀ t, r = .next t → t.pc = s.pc

theorem keepsPC_next (h : u.pc = s.pc) : KeepsPC (.next u) s := by
  rintro _ ⟨⟩; exact h

theorem keepsPC_andThen {f : State → State} (hf : ∀ u, (f u).pc = u.pc) (h : KeepsPC r s) :
    KeepsPC (r.andThen f) s := by
  intro t ht
  obtain ⟨u, hu, rfl⟩ := andThen_next.1 ht
  exact (hf u).trans (h u hu)

theorem keepsPC_writeByte {op : Byte} {a : Addr} {v : Byte} :
    KeepsPC (writeByte op a v s) s := by
  intro t ht
  rcases writeByte_cases op a v s with ⟨-, hw⟩ | ⟨-, hw⟩
  · rw [hw] at ht; cases ht
  · rw [hw] at ht; cases ht; exact poke_pc s a v

theorem keepsPC_writeBack {op : Byte} {o : Operand} {v : Byte} :
    KeepsPC (writeBack op o v s) s := by
  unfold writeBack
  split
  · exact keepsPC_writeByte
  · exact keepsPC_next rfl

theorem keepsPC_storeHigh {op : Byte} {o : Operand} {index v : Byte} :
    KeepsPC (storeHigh op o index v s) s := by
  unfold storeHigh
  split
  · exact keepsPC_writeByte
  · exact keepsPC_next rfl

/-- Under either policy, since a refusal has no next state (R284). -/
theorem keepsPC_underPolicy {op : Byte} {meaning : State → Result} (h : KeepsPC (meaning s) s) :
    KeepsPC (underPolicy op meaning s) s := by
  unfold underPolicy
  split
  · exact h
  · rintro _ ⟨⟩

/-- The stores (R143 to R145, R262). -/
theorem keepsPC_of_writeBack {op v : Byte} (h : exec i s = writeBack op i.operand v s) :
    KeepsPC (exec i s) s := by
  rw [h]; exact keepsPC_writeBack

/-- The memory forms that change their operand (R175 to R180, R263 to R268). -/
theorem keepsPC_of_writeBack_andThen {op v : Byte} {f : State → State}
    (h : exec i s = Result.andThen (writeBack op i.operand v s) f) (hf : ∀ u, (f u).pc = u.pc) :
    KeepsPC (exec i s) s := by
  rw [h]; exact keepsPC_andThen hf keepsPC_writeBack

/-- R130, by what an instruction does: a control transfer is excluded; a store is a write-back; the shifts,
increments and their fusions go on from a write-back; an unstable opcode runs under the policy; every
other instruction has one next state, which updates fields other than PC. -/
theorem exec_keepsPC (h : i.opcode ∉ controlTransfers) : KeepsPC (exec i s) s := by
  cases i with
  | bpl | bmi | bvc | bvs | bcc | bcs | bne | beq | jmpAbsolute | jmpIndirect | jsrAbsolute | rts
  | rti => exact absurd (by simp [Instr.opcode, controlTransfers]) h
  | staIndirectX | staZeroPage | staAbsolute | staIndirectY | staZeroPageX | staAbsoluteY
  | staAbsoluteX | stxZeroPage | stxAbsolute | stxZeroPageY | styZeroPage | styAbsolute
  | styZeroPageX | saxIndirectX | saxZeroPage | saxAbsolute | saxZeroPageY =>
    exact keepsPC_of_writeBack rfl
  | aslZeroPage | aslAbsolute | aslZeroPageX | aslAbsoluteX
  | lsrZeroPage | lsrAbsolute | lsrZeroPageX | lsrAbsoluteX
  | rolZeroPage | rolAbsolute | rolZeroPageX | rolAbsoluteX
  | rorZeroPage | rorAbsolute | rorZeroPageX | rorAbsoluteX
  | incZeroPage | incAbsolute | incZeroPageX | incAbsoluteX
  | decZeroPage | decAbsolute | decZeroPageX | decAbsoluteX
  | dcpIndirectX | dcpZeroPage | dcpAbsolute | dcpIndirectY | dcpZeroPageX | dcpAbsoluteY
  | dcpAbsoluteX
  | iscIndirectX | iscZeroPage | iscAbsolute | iscIndirectY | iscZeroPageX | iscAbsoluteY
  | iscAbsoluteX
  | sloIndirectX | sloZeroPage | sloAbsolute | sloIndirectY | sloZeroPageX | sloAbsoluteY
  | sloAbsoluteX
  | rlaIndirectX | rlaZeroPage | rlaAbsolute | rlaIndirectY | rlaZeroPageX | rlaAbsoluteY
  | rlaAbsoluteX
  | sreIndirectX | sreZeroPage | sreAbsolute | sreIndirectY | sreZeroPageX | sreAbsoluteY
  | sreAbsoluteX
  | rraIndirectX | rraZeroPage | rraAbsolute | rraIndirectY | rraZeroPageX | rraAbsoluteY
  | rraAbsoluteX => exact keepsPC_of_writeBack_andThen rfl (by simp)
  | lxaImmediate | xaaImmediate => exact keepsPC_underPolicy (keepsPC_next (by simp))
  | tasAbsoluteY | shaAbsoluteY | shaIndirectY | shxAbsoluteY | shyAbsoluteX =>
    exact keepsPC_underPolicy keepsPC_storeHigh
  | _ => exact keepsPC_next (by simp)

/-- An instruction is at least one byte long (R81). -/
theorem one_le_length (i : Instr) : 1 ≤ i.length := by
  unfold Instr.length
  cases i.operand.mode <;> decide

/-- The advance from `snap` ends past the instruction (R104). -/
theorem pc_advance_of_running {snap : Addr} {len : Nat} (hrun : u.run = .running) (hpc : u.pc = snap) :
    (u.advance snap len).pc = snap + BitVec.ofNat 16 (len - 1) := by
  rw [State.advance, if_pos ⟨hrun, hpc⟩, setPC_pc, hpc]

theorem advance_of_not_running {snap : Addr} {len : Nat} (hrun : u.run ≠ .running) :
    u.advance snap len = u := if_neg fun h => hrun h.1

end Sys2Proof.Machine
end

section
/-! Family `40_engine.md`: the statements. -/

namespace Sys2Proof

open Machine

/-- The uses R111, R114 and R117 name, row by row of the opcode table. -/
theorem opTable_mode_uses : ∀ e ∈ opTable,
    (e.mode = .zeroPageY → e.mnemonic ∈ [.LDX, .STX, .LAX, .SAX]) ∧
    (e.mode = .indirect → e.mnemonic = .JMP) ∧
    (e.mode = .relative → e.mnemonic ∈ [.BCC, .BCS, .BEQ, .BNE, .BPL, .BMI, .BVC, .BVS]) := by
  decide +kernel

/-- Settles O36: each mode's address, its bit operations read as numbers. -/
theorem resolverComputesEachNonPointerMode : Obligations.ResolverComputesEachNonPointerMode := by
  refine ⟨fun s => ⟨?immediate, ?zeroPage, ?zeroPageX, ?zeroPageY, ?absolute, ?absoluteX, ?absoluteY,
    ?indirect, ?relative, rfl, rfl, rfl, rfl, fun _ _ => rfl⟩, opTable_mode_uses⟩
  case immediate | absolute => rfl
  case zeroPage => exact congrArg some (zext16_eq_ofNat _)
  case zeroPageX | zeroPageY => exact congrArg some (zext16_add_eq_ofNat _ _)
  case absoluteX | absoluteY => exact congrArg some (add_zext16_eq_ofNat _ _)
  case relative => exact congrArg some (branch_target _ _)
  case indirect =>
    rw [← pageBug_address, ← word_eq_ofNat]
    rfl

/-- Settles O38, mode by mode: the operand is read where the mode resolves to, which for Immediate is
`snap` itself. -/
theorem operandIsByteAtResolvedAddress : Obligations.OperandIsByteAtResolvedAddress := by
  intro m s
  cases m <;> rfl

/-- Settles O44, by the equation of a fetched step and the three ends of `andThen`. -/
theorem stepRunsDecodedInstruction : Obligations.StepRunsDecodedInstruction := by
  intro i rest s hreset hrun hdecode
  rw [step_of_fetches ⟨hreset, hrun, fetchInstr_of_decode hdecode⟩]
  refine ⟨fun t ht => ?_, fun f hf => andThen_fault.2 hf, fun r hr => andThen_refused.2 hr⟩
  exact andThen_next.2 ⟨t, ht, rfl⟩

/-- Settles O47: `exec` keeps PC at `snap`, so the advance applies exactly where the engine still runs. -/
theorem onlyControlTransfersWritePC : Obligations.OnlyControlTransfersWritePC := by
  intro i s hi
  refine ⟨exec_keepsPC hi, fun t hfetch hstep => ?_⟩
  rw [step_of_fetches hfetch] at hstep
  obtain ⟨u, hu, rfl⟩ := andThen_next.1 hstep
  have hpc : u.pc = s.pc + 1 := exec_keepsPC hi u hu
  rw [advance_run]
  constructor
  · intro hrun
    have hlen := one_le_length i
    rw [pc_advance_of_running hrun hpc, BitVec.add_assoc]
    congr 1
    bv_omega
  · intro hrun
    rw [advance_of_not_running hrun, hpc]

end Sys2Proof
end

section
/-! Family `41_load_store_transfer.md`: what an instruction leaves unchanged, the flags of `SetZN` (R122) and
the store at a resolved address (R54, R60, R121), in the words of the statements. -/

namespace Sys2Proof.Machine

variable {s t u : State} {i : Instr} {v : Byte} {ea : Addr}

@[simp] theorem setA_flag (s : State) (v : Byte) (f : Flag) : (s.setA v).flag f = s.flag f := rfl
@[simp] theorem setX_flag (s : State) (v : Byte) (f : Flag) : (s.setX v).flag f = s.flag f := rfl
@[simp] theorem setY_flag (s : State) (v : Byte) (f : Flag) : (s.setY v).flag f = s.flag f := rfl
@[simp] theorem setSP_flag (s : State) (v : Byte) (f : Flag) : (s.setSP v).flag f = s.flag f := rfl
@[simp] theorem poke_flag (s : State) (a : Addr) (v : Byte) (f : Flag) :
    (s.poke a v).flag f = s.flag f := congrArg (getFlag · f) (poke_p s a v)

theorem unchanged_setA (s : State) (v : Byte) : Unchanged [.A] [] s (s.setA v) := by simp [Unchanged]
theorem unchanged_setX (s : State) (v : Byte) : Unchanged [.X] [] s (s.setX v) := by simp [Unchanged]
theorem unchanged_setY (s : State) (v : Byte) : Unchanged [.Y] [] s (s.setY v) := by simp [Unchanged]
theorem unchanged_setSP (s : State) (v : Byte) : Unchanged [.SP] [] s (s.setSP v) := by simp [Unchanged]
theorem unchanged_poke (s : State) (a : Addr) (v : Byte) : Unchanged [] [] s (s.poke a v) := by
  simp [Unchanged]

/-- Setting Z and N widens what a frame names by these two flags alone. -/
theorem Unchanged.setZN {regs : List Reg} {flags : List Flag} (h : Unchanged regs flags s u) (v : Byte) :
    Unchanged regs (.Z :: .N :: flags) s (u.setZN v) := by
  obtain ⟨ha, hx, hy, hsp, hpc, hflags, hrest⟩ := h
  refine ⟨ha, hx, hy, hsp, hpc, fun f hf => ?_, hrest⟩
  simp only [List.mem_cons, not_or] at hf
  obtain ⟨hz, hn, hf⟩ := hf
  rw [setZN_flag, if_neg hn, if_neg hz, hflags f hf]

/-- The sign bit of a byte in numbers. -/
theorem getLsbD_seven_eq_decide (v : Byte) : v.getLsbD 7 = decide (0x80 ≤ v.toNat) :=
  (BitVec.msb_eq_getLsbD_last v).symm.trans (BitVec.msb_eq_decide v)

/-- `ZNOf` from the bits that `SetZN` reads (R122). -/
theorem zNOf_of_flags (hz : t.flag .Z = (v == 0)) (hn : t.flag .N = v.getLsbD 7) : ZNOf v t :=
  ⟨hz.trans (beq_eq_decide v 0), hn.trans (getLsbD_seven_eq_decide v)⟩

theorem zNOf_setZN (s : State) (v : Byte) : ZNOf v (s.setZN v) :=
  zNOf_of_flags (by simp) (by simp)

/-- An instruction that puts `v` in a register, which gives `u`, and then sets Z and N from `v`. -/
theorem completes_of_setZN {reg : State → Byte} {regs : List Reg}
    (hexec : exec i s = .next (u.setZN v)) (hreg : reg (u.setZN v) = v) (hmem : SameMemory s u)
    (hframe : Unchanged regs [] s u) :
    Completes i s fun t => reg t = v ∧ ZNOf (reg t) t ∧ Unchanged regs [.Z, .N] s t :=
  ⟨u.setZN v, hexec, hmem, hreg, hreg.symm ▸ zNOf_setZN u v, hframe.setZN v⟩

/-- A poke stores its byte for every address that reaches the same RAM byte (R54, R58). -/
theorem storedAt_poke (hwf : Memory.wf s.mem = true) (ea : Addr) (v : Byte) :
    StoredAt ea v s (s.poke ea v) := by
  intro a
  simp only [readByte_poke hwf, inRam_iff, ramKey_eq]

/-- Where an operand resolves to an address, the write-back is a byte write there (R121). -/
theorem writeBack_of_resolve {o : Operand} (h : resolve o s = some ea) (op v : Byte) :
    writeBack op o v s = writeByte op ea v s := by simp only [writeBack, h]

/-- An instruction that is a write-back of `v` to its operand stores `v`, or faults, and changes nothing
else. -/
theorem writesOperand_of_writeBack (hwf : Memory.wf s.mem = true)
    (hexec : exec i s = writeBack i.opcode i.operand v s) :
    WritesOperand i s v (Unchanged [] [] s) := by
  intro ea hea
  rw [hexec, writeBack_of_resolve hea]
  refine ⟨fun hlt => ?_, fun hge => writeByte_rom (inRom_iff.2 hge)⟩
  have hrom : inRom ea = false := by simpa [inRom] using hlt
  exact ⟨s.poke ea v, writeByte_next hrom, storedAt_poke hwf ea v, unchanged_poke s ea v⟩

end Sys2Proof.Machine
end

section
/-! Family `41_load_store_transfer.md`: the meaning each form of a load or a store has, and the statements. -/

namespace Sys2Proof.Machine

variable {i : Instr} {b : Byte} {w : Addr}

theorem exec_of_mem_formsLDA (h : i ∈ formsLDA b w) (s : State) : exec i s = lda i.operand s := by
  fin_cases h <;> rfl

theorem exec_of_mem_formsLDX (h : i ∈ formsLDX b w) (s : State) : exec i s = ldx i.operand s := by
  fin_cases h <;> rfl

theorem exec_of_mem_formsLDY (h : i ∈ formsLDY b w) (s : State) : exec i s = ldy i.operand s := by
  fin_cases h <;> rfl

theorem exec_of_mem_formsSTA (h : i ∈ formsSTA b w) (s : State) :
    exec i s = sta i.opcode i.operand s := by
  fin_cases h <;> rfl

theorem exec_of_mem_formsSTX (h : i ∈ formsSTX b w) (s : State) :
    exec i s = stx i.opcode i.operand s := by
  fin_cases h <;> rfl

theorem exec_of_mem_formsSTY (h : i ∈ formsSTY b w) (s : State) :
    exec i s = sty i.opcode i.operand s := by
  fin_cases h <;> rfl

end Sys2Proof.Machine

namespace Sys2Proof

open Machine

/-- Settles O1: each form's meaning puts the operand in the register and sets Z and N from it. -/
theorem loadsReadOperandIntoRegister : Obligations.LoadsReadOperandIntoRegister := by
  intro b w s
  refine ⟨fun i hi => ?lda, fun i hi => ?ldx, fun i hi => ?ldy⟩
  case lda =>
    exact completes_of_setZN (exec_of_mem_formsLDA hi s) rfl (fun _ => rfl) (unchanged_setA s _)
  case ldx =>
    exact completes_of_setZN (exec_of_mem_formsLDX hi s) rfl (fun _ => rfl) (unchanged_setX s _)
  case ldy =>
    exact completes_of_setZN (exec_of_mem_formsLDY hi s) rfl (fun _ => rfl) (unchanged_setY s _)

/-- Settles O2: each form's meaning is a write-back of the register. -/
theorem storesWriteRegisterToOperand : Obligations.StoresWriteRegisterToOperand := by
  intro b w s hwf
  exact ⟨fun i hi => writesOperand_of_writeBack hwf (exec_of_mem_formsSTA hi s),
    fun i hi => writesOperand_of_writeBack hwf (exec_of_mem_formsSTX hi s),
    fun i hi => writesOperand_of_writeBack hwf (exec_of_mem_formsSTY hi s)⟩

/-- Settles O3: the five transfers into A, X and Y set Z and N after the copy, and TXS copies alone. -/
theorem transfersCopyOneRegister : Obligations.TransfersCopyOneRegister := by
  intro s
  refine ⟨?tax, ?tay, ?txa, ?tya, ?tsx, ?txs⟩
  case tax | tsx => exact completes_of_setZN rfl rfl (fun _ => rfl) (unchanged_setX s _)
  case tay => exact completes_of_setZN rfl rfl (fun _ => rfl) (unchanged_setY s _)
  case txa | tya => exact completes_of_setZN rfl rfl (fun _ => rfl) (unchanged_setA s _)
  case txs => exact ⟨s.setSP s.x, rfl, fun _ => rfl, rfl, unchanged_setSP s s.x⟩

end Sys2Proof
end

section
/-! Family `42_alu.md`: frames of flag writes, and an instruction that goes on from a write-back or has one
next state, in the words of the statements. -/

namespace Sys2Proof.Machine

variable {s t u : State} {i : Instr} {v : Byte} {regs : List Reg} {flags flags' : List Flag}

/-- A flag write widens what a frame names by that flag alone. -/
theorem Unchanged.setFlag (h : Unchanged regs flags s u) (f : Flag) (b : Bool) :
    Unchanged regs (f :: flags) s (u.setFlag f b) := by
  obtain ⟨ha, hx, hy, hsp, hpc, hflags, hrest⟩ := h
  refine ⟨ha, hx, hy, hsp, hpc, fun g hg => ?_, hrest⟩
  simp only [List.mem_cons, not_or] at hg
  obtain ⟨hgf, hg⟩ := hg
  rw [setFlag_flag, if_neg hgf, hflags g hg]

/-- A frame that names more flags says less. -/
theorem Unchanged.mono (h : Unchanged regs flags s t) (hsub : flags ⊆ flags') :
    Unchanged regs flags' s t := by
  obtain ⟨ha, hx, hy, hsp, hpc, hflags, hrest⟩ := h
  exact ⟨ha, hx, hy, hsp, hpc, fun f hf => hflags f fun hmem => hf (hsub hmem), hrest⟩

theorem unchanged_refl (s : State) : Unchanged [] [] s s := by simp [Unchanged]

/-- An instruction that writes `v` back to its memory operand and goes on with `f`, which leaves memory
alone: it stores `v` and ends in a state of `f`, or faults (R16, R60, R121). -/
theorem writesOperand_of_writeBack_andThen {f : State → State} {P : State → Prop}
    (hwf : Memory.wf s.mem = true)
    (hexec : exec i s = (writeBack i.opcode i.operand v s).andThen f)
    (hmem : ∀ u, SameMemory u (f u)) (hP : ∀ u, Unchanged [] [] s u → P (f u)) :
    WritesOperand i s v P := by
  intro ea hea
  rw [hexec, writeBack_of_resolve hea]
  refine ⟨fun hlt => ?_, fun hge => andThen_fault.2 (writeByte_rom (inRom_iff.2 hge))⟩
  have hrom : inRom ea = false := by simpa [inRom] using hlt
  exact ⟨f (s.poke ea v), andThen_next.2 ⟨_, writeByte_next hrom, rfl⟩,
    fun a => (hmem _ a).trans (storedAt_poke hwf ea v a), hP _ (unchanged_poke s ea v)⟩

end Sys2Proof.Machine
end

section
/-! Family `42_alu.md`: the add path, the compare path and the bit functions in numbers (R123, R124, R129). -/

namespace Sys2Proof.Machine

variable {s : State} {i : Instr}

/-- Bit 6 of a byte in numbers. -/
theorem getLsbD_six_eq_decide (v : Byte) : v.getLsbD 6 = decide (64 ≤ v.toNat % 128) := by
  rw [BitVec.getLsbD, Nat.testBit_eq_decide_div_mod_eq, decide_eq_decide]
  omega

/-- Bit 0 of a byte in numbers. -/
theorem getLsbD_zero_eq_decide (v : Byte) : v.getLsbD 0 = decide (v.toNat % 2 = 1) := by
  rw [BitVec.getLsbD, Nat.testBit_zero]

theorem toNat_add_one (v : Byte) : (v + 1).toNat = (v.toNat + 1) % 256 := BitVec.toNat_add v 1

theorem toNat_sub_one (v : Byte) : (v - 1).toNat = (v.toNat + 255) % 256 := by
  bv_omega

theorem ofNat_toNat_add_one (v : Byte) : BitVec.ofNat 8 (v.toNat + 1) = v + 1 :=
  BitVec.eq_of_toNat_eq ((BitVec.toNat_ofNat _ 8).trans (toNat_add_one v).symm)

theorem ofNat_toNat_sub_one (v : Byte) : BitVec.ofNat 8 (v.toNat + 255) = v - 1 :=
  BitVec.eq_of_toNat_eq ((BitVec.toNat_ofNat _ 8).trans (toNat_sub_one v).symm)

theorem toNat_shiftLeft_one (v : Byte) : (v <<< 1).toNat = 2 * v.toNat % 256 := by
  rw [BitVec.toNat_shiftLeft, Nat.shiftLeft_eq, Nat.mul_comm]

theorem toNat_shiftRight_one (v : Byte) : (v >>> 1).toNat = v.toNat / 2 := by
  rw [BitVec.toNat_ushiftRight, Nat.shiftRight_eq_div_pow]

theorem asl1_eq_shiftLeft (v : Byte) : asl1 v = shiftLeft v := by
  refine Prod.ext (BitVec.eq_of_toNat_eq ?_) (getLsbD_seven_eq_decide v).symm
  rw [asl1, shiftLeft, toNat_shiftLeft_one, BitVec.toNat_ofNat]

theorem lsr1_eq_shiftRight (v : Byte) : lsr1 v = shiftRight v := by
  refine Prod.ext (BitVec.eq_of_toNat_eq ?_) (getLsbD_zero_eq_decide v).symm
  have := v.isLt
  rw [lsr1, shiftRight, toNat_shiftRight_one, BitVec.toNat_ofNat]
  omega

theorem bitByte_getLsbD (c : Bool) (j : Nat) : (bitByte c).getLsbD j = (decide (j = 0) && c) := by
  cases c <;> simp [bitByte, BitVec.getLsbD_one]

/-- The vacated bit 0 is clear, so putting the carry there adds it. -/
theorem shiftLeft_or_bitByte (v : Byte) (c : Bool) : v <<< 1 ||| bitByte c = v <<< 1 + bitByte c := by
  refine (BitVec.add_eq_or_of_and_eq_zero _ _ (BitVec.eq_of_getLsbD_eq fun j hj => ?_)).symm
  by_cases h : j = 0
  · simp [h]
  · simp [bitByte_getLsbD, h]

/-- The vacated bit 7 is clear, so putting the carry there adds it. -/
theorem shiftRight_or_bitByte (v : Byte) (c : Bool) :
    v >>> 1 ||| bitByte c <<< 7 = v >>> 1 + bitByte c <<< 7 := by
  refine (BitVec.add_eq_or_of_and_eq_zero _ _ (BitVec.eq_of_getLsbD_eq fun j hj => ?_)).symm
  by_cases h : j < 7
  · simp [bitByte_getLsbD, h]
  · have hout : v.getLsbD (1 + j) = false := BitVec.getLsbD_of_ge v _ (by omega)
    simp [hout]

theorem toNat_bitByte (c : Bool) : (bitByte c).toNat = c.toNat := by cases c <;> rfl

theorem toNat_bitByte_shiftLeft (c : Bool) : (bitByte c <<< 7).toNat = 128 * c.toNat := by
  cases c <;> rfl

theorem rol1_eq_rotateLeft (v : Byte) (c : Bool) : rol1 v c = rotateLeft v c := by
  refine Prod.ext (BitVec.eq_of_toNat_eq ?_) (getLsbD_seven_eq_decide v).symm
  rw [rol1, rotateLeft, shiftLeft_or_bitByte, BitVec.toNat_add, toNat_shiftLeft_one, toNat_bitByte,
    BitVec.toNat_ofNat]
  omega

theorem ror1_eq_rotateRight (v : Byte) (c : Bool) : ror1 v c = rotateRight v c := by
  refine Prod.ext (BitVec.eq_of_toNat_eq ?_) (getLsbD_zero_eq_decide v).symm
  rw [ror1, rotateRight, shiftRight_or_bitByte, BitVec.toNat_add, toNat_shiftRight_one,
    toNat_bitByte_shiftLeft, BitVec.toNat_ofNat]

theorem unchanged_addPath (s : State) (m : Byte) : Unchanged [.A] [.C, .Z, .V, .N] s (s.addPath m) := by
  refine ⟨by simp, by simp, by simp, by simp, by simp, fun f hf => ?_, by simp⟩
  rw [addPath_flag]
  cases f with
  | C | Z | V | N => exact absurd (by decide) hf
  | I | D | B | U => rfl

theorem addEffect_addPath (s : State) (m : Byte) : AddEffect m (s.flag .C) s (s.addPath m) := by
  refine ⟨?sum, ?carry, ?overflow, zNOf_of_flags ?zero ?negative⟩
  case sum => rw [addPath_a, addByte, BitVec.toNat_ofNat, addSum]
  case carry => exact addPath_flag s m .C
  case overflow =>
    rw [addPath_flag, addPath_a]
    rw [addOverflow, bne, beq_eq_decide, decide_not]
  case zero | negative => rw [addPath_flag, addPath_a]

/-- The carry out of the add path on the complement is "no borrow" (R171). -/
theorem addCarry_not (a m : Byte) (c : Bool) :
    addCarry a (~~~m) c = decide (m.toNat + (1 - c.toNat) ≤ a.toNat) := by
  have hm := m.isLt
  have hc := c.toNat_le
  rw [addCarry, addSum, BitVec.toNat_not, decide_eq_decide]
  omega

theorem unchanged_comparePath (s : State) (r m : Byte) :
    Unchanged [] [.C, .Z, .N] s (s.comparePath r m) :=
  ((((unchanged_refl s).setFlag .C _).setFlag .Z _).setFlag .N _).mono (by decide)

theorem compareEffect_comparePath (s : State) (r m : Byte) : CompareEffect r m (s.comparePath r m) := by
  refine ⟨comparePath_flag s r m .C, ?zero, ?negative⟩
  case zero => rw [comparePath_flag]; exact beq_eq_decide r m
  case negative => rw [comparePath_flag]; exact getLsbD_seven_eq_decide (r - m)

end Sys2Proof.Machine
end

section
/-! Family `42_alu.md`: the meaning each form of an instruction has. -/

namespace Sys2Proof.Machine

variable {i : Instr} {b : Byte} {w : Addr}

theorem exec_of_mem_formsADC (h : i ∈ formsADC b w) (s : State) : exec i s = adc i.operand s := by
  fin_cases h <;> rfl

theorem exec_of_mem_formsSBC (h : i ∈ formsSBC b w) (s : State) : exec i s = sbc i.operand s := by
  fin_cases h <;> rfl

theorem exec_of_mem_formsAND (h : i ∈ formsAND b w) (s : State) : exec i s = andA i.operand s := by
  fin_cases h <;> rfl

theorem exec_of_mem_formsORA (h : i ∈ formsORA b w) (s : State) : exec i s = ora i.operand s := by
  fin_cases h <;> rfl

theorem exec_of_mem_formsEOR (h : i ∈ formsEOR b w) (s : State) : exec i s = eor i.operand s := by
  fin_cases h <;> rfl

theorem exec_of_mem_formsASL (h : i ∈ formsASL b w) (s : State) :
    exec i s = asl i.opcode i.operand s := by
  fin_cases h <;> rfl

theorem exec_of_mem_formsLSR (h : i ∈ formsLSR b w) (s : State) :
    exec i s = lsr i.opcode i.operand s := by
  fin_cases h <;> rfl

theorem exec_of_mem_formsROL (h : i ∈ formsROL b w) (s : State) :
    exec i s = rol i.opcode i.operand s := by
  fin_cases h <;> rfl

theorem exec_of_mem_formsROR (h : i ∈ formsROR b w) (s : State) :
    exec i s = ror i.opcode i.operand s := by
  fin_cases h <;> rfl

theorem exec_of_mem_formsINC (h : i ∈ formsINC b w) (s : State) :
    exec i s = inc i.opcode i.operand s := by
  fin_cases h <;> rfl

theorem exec_of_mem_formsDEC (h : i ∈ formsDEC b w) (s : State) :
    exec i s = dec i.opcode i.operand s := by
  fin_cases h <;> rfl

theorem exec_of_mem_formsCMP (h : i ∈ formsCMP b w) (s : State) : exec i s = cmp i.operand s := by
  fin_cases h <;> rfl

theorem exec_of_mem_formsCPX (h : i ∈ formsCPX b w) (s : State) : exec i s = cpx i.operand s := by
  fin_cases h <;> rfl

theorem exec_of_mem_formsCPY (h : i ∈ formsCPY b w) (s : State) : exec i s = cpy i.operand s := by
  fin_cases h <;> rfl

theorem exec_of_mem_formsBIT (h : i ∈ formsBIT b w) (s : State) : exec i s = bit i.operand s := by
  fin_cases h <;> rfl

end Sys2Proof.Machine
end

section
/-! Family `42_alu.md`: the instructions of one shape together, and the statements. -/

namespace Sys2Proof.Machine

variable {s : State} {i : Instr} {r m v : Byte} {out : Byte × Bool}

theorem completes_of_comparePath (hexec : exec i s = .next (s.comparePath r m)) :
    Completes i s fun t => CompareEffect r m t ∧ Unchanged [] [.C, .Z, .N] s t :=
  ⟨_, hexec, fun _ => rfl, compareEffect_comparePath s r m, unchanged_comparePath s r m⟩

/-- A shift of the accumulator (spec/42_alu.md section 3). -/
theorem completes_of_shiftBack_accumulator
    (hexec : exec i s = shiftBack i.opcode .accumulator out s) :
    Completes i s fun t => t.a = out.1 ∧ t.flag .C = out.2 ∧ ZNOf t.a t ∧
      Unchanged [.A] [.C, .Z, .N] s t :=
  ⟨((s.setA out.1).setFlag .C out.2).setZN out.1, hexec, fun _ => rfl, rfl, by simp, zNOf_setZN _ _,
    (((unchanged_setA s _).setFlag .C _).setZN _).mono (by decide)⟩

/-- A shift of a byte in memory (spec/42_alu.md section 3). -/
theorem writesOperand_of_shiftBack (hwf : Memory.wf s.mem = true)
    (hexec : exec i s = shiftBack i.opcode i.operand out s) :
    WritesOperand i s out.1 fun t => t.flag .C = out.2 ∧ ZNOf out.1 t ∧
      Unchanged [] [.C, .Z, .N] s t :=
  writesOperand_of_writeBack_andThen hwf hexec (fun _ _ => rfl) fun _ hu =>
    ⟨by simp, zNOf_setZN _ _, ((hu.setFlag .C _).setZN _).mono (by decide)⟩

/-- An increment or decrement of a byte in memory. -/
theorem writesOperand_of_writeBack_setZN (hwf : Memory.wf s.mem = true)
    (hexec : exec i s = (writeBack i.opcode i.operand v s).andThen (State.setZN · v)) :
    WritesOperand i s v fun t => ZNOf v t ∧ Unchanged [] [.Z, .N] s t :=
  writesOperand_of_writeBack_andThen hwf hexec (fun _ _ => rfl) fun _ hu =>
    ⟨zNOf_setZN _ _, hu.setZN v⟩

end Sys2Proof.Machine

namespace Sys2Proof

open Machine

/-- Settles O4: each form's meaning is the add path on the operand. -/
theorem adcAddsWithCarry : Obligations.AdcAddsWithCarry := by
  intro b w s i hi
  exact ⟨_, exec_of_mem_formsADC hi s, readByte_congr (by simp) (by simp), addEffect_addPath s _,
    unchanged_addPath s _⟩

/-- Settles O5: each form's meaning is the add path on the complement, whose carry out is "no borrow". -/
theorem sbcSubtractsWithBorrow : Obligations.SbcSubtractsWithBorrow := by
  intro b w s i hi
  exact ⟨_, exec_of_mem_formsSBC hi s, readByte_congr (by simp) (by simp), addEffect_addPath s _,
    (addPath_flag s _ .C).trans (addCarry_not _ _ _), unchanged_addPath s _⟩

/-- Settles O8: each form's meaning puts the combination in A and sets Z and N from it. -/
theorem logicalOpsCombineWithA : Obligations.LogicalOpsCombineWithA := by
  intro b w s
  refine ⟨fun i hi => ?and, fun i hi => ?ora, fun i hi => ?eor⟩
  case and =>
    exact completes_of_setZN (exec_of_mem_formsAND hi s) rfl (fun _ => rfl) (unchanged_setA s _)
  case ora =>
    exact completes_of_setZN (exec_of_mem_formsORA hi s) rfl (fun _ => rfl) (unchanged_setA s _)
  case eor =>
    exact completes_of_setZN (exec_of_mem_formsEOR hi s) rfl (fun _ => rfl) (unchanged_setA s _)

/-- Settles O9: the statement's numbers are the model's bit functions, and each form writes the shifted
byte back. -/
theorem shiftsMoveOneBit : Obligations.ShiftsMoveOneBit := by
  intro b w s hwf
  simp only [asl1_eq_shiftLeft, lsr1_eq_shiftRight, rol1_eq_rotateLeft, ror1_eq_rotateRight]
  refine ⟨?aslA, ?lsrA, ?rolA, ?rorA, fun i hi => ?asl, fun i hi => ?lsr, fun i hi => ?rol,
    fun i hi => ?ror⟩
  case aslA | lsrA | rolA | rorA => exact completes_of_shiftBack_accumulator rfl
  case asl => exact writesOperand_of_shiftBack hwf (exec_of_mem_formsASL hi s)
  case lsr => exact writesOperand_of_shiftBack hwf (exec_of_mem_formsLSR hi s)
  case rol => exact writesOperand_of_shiftBack hwf (exec_of_mem_formsROL hi s)
  case ror => exact writesOperand_of_shiftBack hwf (exec_of_mem_formsROR hi s)

/-- Settles O10: a memory form writes the changed byte back and a register form sets its register; both
then set Z and N. -/
theorem incrementsAndDecrementsWrap : Obligations.IncrementsAndDecrementsWrap := by
  intro b w s hwf
  simp only [ofNat_toNat_add_one, ofNat_toNat_sub_one, ← toNat_add_one, ← toNat_sub_one,
    BitVec.toNat_inj]
  refine ⟨fun i hi => ?inc, fun i hi => ?dec, ?inx, ?iny, ?dex, ?dey⟩
  case inc => exact writesOperand_of_writeBack_setZN hwf (exec_of_mem_formsINC hi s)
  case dec => exact writesOperand_of_writeBack_setZN hwf (exec_of_mem_formsDEC hi s)
  case inx | dex => exact completes_of_setZN rfl rfl (fun _ => rfl) (unchanged_setX s _)
  case iny | dey => exact completes_of_setZN rfl rfl (fun _ => rfl) (unchanged_setY s _)

/-- Settles O11: each form's meaning is the compare path on its register and operand. -/
theorem comparesSetFlagsOnly : Obligations.ComparesSetFlagsOnly := by
  intro b w s
  exact ⟨fun i hi => completes_of_comparePath (exec_of_mem_formsCMP hi s),
    fun i hi => completes_of_comparePath (exec_of_mem_formsCPX hi s),
    fun i hi => completes_of_comparePath (exec_of_mem_formsCPY hi s)⟩

/-- Settles O12: both forms write Z, N and V in turn. -/
theorem bitTestsOperandBits : Obligations.BitTestsOperandBits := by
  intro b w s i hi
  refine ⟨_, exec_of_mem_formsBIT hi s, fun _ => rfl, ?zero, ?negative, ?overflow, ?frame⟩
  case zero => simpa using beq_eq_decide _ _
  case negative => simpa using getLsbD_seven_eq_decide _
  case overflow => simpa using getLsbD_six_eq_decide _
  case frame =>
    exact ((((unchanged_refl s).setFlag .Z _).setFlag .N _).setFlag .V _).mono (by decide)

end Sys2Proof
end

section
/-! Family `43_control_stack_flags.md`: a write of PC and of one flag, and the step of an instruction that
writes PC (R104, R339), in the words of the statements. -/

namespace Sys2Proof.Machine

variable {i : Instr} {s u : State} {v : Addr} {f : Flag} {b : Bool}

@[simp] theorem setPC_flag (s : State) (v : Addr) (f : Flag) : (s.setPC v).flag f = s.flag f := rfl

@[simp] theorem setPC_setPC (s : State) (v w : Addr) : (s.setPC v).setPC w = s.setPC w := rfl

theorem unchanged_setPC (s : State) (v : Addr) : Unchanged [.PC] [] s (s.setPC v) := by simp [Unchanged]

/-- An instruction that puts `v` in PC. -/
theorem completes_of_setPC (hexec : exec i s = .next (s.setPC v)) :
    Completes i s fun t => t.pc = v ∧ Unchanged [.PC] [] s t :=
  ⟨s.setPC v, hexec, fun _ => rfl, rfl, unchanged_setPC s v⟩

/-- An instruction that puts `b` in the flag `f`. -/
theorem completes_of_setFlag (hexec : exec i s = .next (s.setFlag f b)) :
    Completes i s fun t => t.flag f = b ∧ Unchanged [] [f] s t :=
  ⟨s.setFlag f b, hexec, fun _ => rfl, by simp, (unchanged_refl s).setFlag f b⟩

theorem Fetches.running (h : Fetches i s) : s.run = .running := by
  obtain ⟨-, hrun, -⟩ := h
  exact hrun

/-- The opcode byte and the operand bytes make up the whole instruction. -/
theorem snap_add_length_sub_one (w : Addr) (i : Instr) :
    w + 1 + BitVec.ofNat 16 (i.length - 1) = w + BitVec.ofNat 16 i.length := by
  have hlen := one_le_length i
  rw [BitVec.add_assoc]
  congr 1
  bv_omega

/-- The advance cannot tell a transfer to `snap` from no transfer: it then skips the operand bytes (R104,
R339). -/
theorem advance_setPC (hrun : u.run = .running) (w : Addr) :
    (u.setPC v).advance (w + 1) i.length =
      u.setPC (if v = w + 1 then w + BitVec.ofNat 16 i.length else v) := by
  unfold State.advance
  by_cases hv : v = w + 1
  · rw [if_pos ⟨hrun, hv⟩, if_pos hv, setPC_pc, setPC_setPC, hv, snap_add_length_sub_one]
  · rw [if_neg fun ⟨_, h⟩ => hv h, if_neg hv]

/-- A step of an instruction that goes to `u` and puts `v` in PC ends at `v`, or past the instruction where
`v` is `snap` (R104, R339). -/
theorem step_of_exec_setPC (h : Fetches i s)
    (hexec : exec i (s.setPC (s.pc + 1)) = .next (u.setPC v)) (hrun : u.run = .running) :
    step s = .next (u.setPC (if v = s.pc + 1 then s.pc + BitVec.ofNat 16 i.length else v)) := by
  rw [step_of_fetches h, hexec, andThen_next]
  exact ⟨_, rfl, (advance_setPC hrun s.pc).symm⟩

end Sys2Proof.Machine
end

section
/-! Family `43_control_stack_flags.md`: the branches (R210 to R218). -/

namespace Sys2Proof.Machine

variable {s : State} {off : Byte} {c : Instr × Flag × Bool}

/-- The branches with offset `off`, each with the flag it tests and the value at which it is taken (R211 to
R218). -/
def branches (off : Byte) : List (Instr × Flag × Bool) :=
  [(.bcc off, .C, false), (.bcs off, .C, true), (.beq off, .Z, true), (.bne off, .Z, false),
    (.bpl off, .N, false), (.bmi off, .N, true), (.bvc off, .V, false), (.bvs off, .V, true)]

/-- `Branch` of a test of one flag against one value (R210). -/
theorem exec_of_mem_branches (h : c ∈ branches off) (s : State) :
    exec c.1 s = branch (s.flag c.2.1 == c.2.2) off s := by
  fin_cases h <;> simp only [beq_true, beq_false] <;> rfl

theorem length_of_mem_branches (h : c ∈ branches off) : c.1.length = 2 := by
  fin_cases h <;> rfl

/-- `Branch` writes PC alone; not taken, it leaves PC where it was (R210). -/
theorem branch_eq_next_setPC (cond : Bool) (off : Byte) (s : State) :
    branch cond off s = .next (s.setPC (if cond then s.pc + 1 + sext16 off else s.pc)) := by
  cases cond <;> rfl

/-- A branch writes its target in PC where its flag has its value (R211 to R218). -/
theorem exec_branch_eq_next_setPC (h : c ∈ branches off) (s : State) :
    exec c.1 s =
      .next (s.setPC (if s.flag c.2.1 = c.2.2 then s.pc + 1 + sext16 off else s.pc)) := by
  simp only [exec_of_mem_branches h, branch_eq_next_setPC, beq_iff_eq]

theorem sext16_inj {b c : Byte} : sext16 b = sext16 c ↔ b = c := by
  have hwidth : 8 ≤ 16 := by decide
  rw [← BitVec.toInt_inj, sext16, sext16, BitVec.toInt_signExtend_of_le hwidth,
    BitVec.toInt_signExtend_of_le hwidth, BitVec.toInt_inj]

/-- The target equals `snap` for the offset -1 alone (R210). -/
theorem branch_target_eq_snap_iff (w : Addr) (off : Byte) : w + 1 + sext16 off = w ↔ off = 0xFF := by
  have hneg : sext16 0xFF = -1 := rfl
  rw [BitVec.add_assoc, add_eq_left, add_eq_zero_iff_neg_eq, ← hneg, sext16_inj, eq_comm]

/-- The target of a branch at `w`, in numbers. -/
theorem branch_target_of_opcode_address (w : Addr) (off : Byte) :
    w + 1 + 1 + sext16 off = BitVec.ofInt 16 (w.toNat + 2 + off.toInt) := by
  rw [BitVec.add_assoc w, sext16, BitVec.signExtend, BitVec.ofInt_add, BitVec.ofInt_add]
  simp

end Sys2Proof.Machine
end

section
/-! Family `43_control_stack_flags.md`: the jumps and the flag operations, and the statements. -/

namespace Sys2Proof.Machine

variable {s : State} {o : Operand} {target : Addr}

/-- Where an operand resolves to an address, the transfer puts it in PC. -/
theorem jumpTo_of_resolve (h : resolve o s = some target) : jumpTo o s = .next (s.setPC target) := by
  simp only [jumpTo, h]

/-- The pointer of an indirect jump is read through the bus, whatever PC is. -/
theorem resolve_indirect_setPC (ptr v : Addr) :
    resolve (.indirect ptr) (s.setPC v) = resolve (.indirect ptr) s := rfl

/-- The flag operations, each with its flag and the value it writes (R228 to R234). -/
def flagOps : List (Instr × Flag × Bool) :=
  [(.sec, .C, true), (.clc, .C, false), (.sei, .I, true), (.cli, .I, false), (.sed, .D, true),
    (.cld, .D, false), (.clv, .V, false)]

theorem exec_of_mem_flagOps {c : Instr × Flag × Bool} (h : c ∈ flagOps) (s : State) :
    exec c.1 s = .next (s.setFlag c.2.1 c.2.2) := by
  fin_cases h <;> rfl

end Sys2Proof.Machine

namespace Sys2Proof

open Machine

/-- Settles O13: each branch puts its target, or PC itself, in PC. -/
theorem branchesTestOneFlag : Obligations.BranchesTestOneFlag := by
  intro off s c hc
  rw [← branch_target]
  exact completes_of_setPC (exec_branch_eq_next_setPC hc s)

/-- Settles O14: not taken, PC stays at `snap` and the advance applies; taken, it applies for the target
`snap` alone, which is that of the offset 0xFF. -/
theorem branchStepEndsAtTargetOrNext : Obligations.BranchStepEndsAtTargetOrNext := by
  intro off s c hc hfetch
  have hexec := exec_branch_eq_next_setPC hc (s.setPC (s.pc + 1))
  rw [setPC_setPC, setPC_flag, setPC_pc] at hexec
  have hlen : BitVec.ofNat 16 c.1.length = 2 := congrArg _ (length_of_mem_branches hc)
  rw [step_of_exec_setPC hfetch hexec hfetch.running, hlen, ← branch_target_of_opcode_address]
  by_cases htaken : s.flag c.2.1 = c.2.2
  case neg => rw [if_neg htaken, if_pos rfl, if_neg fun ⟨h, _⟩ => htaken h]
  case pos =>
    rw [if_pos htaken]
    by_cases hoff : off = 0xFF
    · rw [if_pos ((branch_target_eq_snap_iff _ _).2 hoff), if_neg fun ⟨_, h⟩ => h hoff]
    · rw [if_neg (hoff ∘ (branch_target_eq_snap_iff _ _).1), if_pos ⟨htaken, hoff⟩]

/-- Settles O15: both forms put what their operand resolves to in PC, the indirect form with the page bug of
R114. -/
theorem jumpsSetPC : Obligations.JumpsSetPC := by
  intro w s
  refine ⟨completes_of_setPC rfl, ?indirect, fun hfetch => ?stepAbsolute,
    fun hfetch target htarget => ?stepIndirect⟩
  case indirect =>
    obtain ⟨t, hexec, hmem, hpc, hframe⟩ := completes_of_setPC (i := .jmpIndirect w) (s := s) rfl
    refine ⟨t, hexec, hmem, ?_, hframe⟩
    rw [hpc, toNat_word, pageBug_address]
  case stepAbsolute => exact step_of_exec_setPC hfetch rfl hfetch.running
  case stepIndirect =>
    rw [← resolve_indirect_setPC w (s.pc + 1)] at htarget
    exact step_of_exec_setPC hfetch (jumpTo_of_resolve htarget) hfetch.running

/-- Settles O23: each flag operation is one flag write. -/
theorem flagOpsWriteOneFlag : Obligations.FlagOpsWriteOneFlag := by
  intro s c hc
  exact completes_of_setFlag (exec_of_mem_flagOps hc s)

end Sys2Proof
end

section
/-! Family `60_exceptions.md`: the halts and their step (R303, R304), and the faults of the byte writes (R16,
R60, R302). -/

namespace Sys2Proof.Machine

variable {i : Instr} {s u : State} {f : Fault} {o : Operand} {op v : Byte}

/-- KIL is one meaning under twelve opcodes (R283). -/
theorem exec_of_mem_formsKIL (h : i ∈ formsKIL) (s : State) :
    exec i s = .next (s.setRun (.halted .kil)) := by
  fin_cases h <;> rfl

/-- A step whose instruction halts the engine ends where `exec` ends: no advance follows (R104, R303). -/
theorem step_of_exec_halted (h : Fetches i s) (hexec : exec i (s.setPC (s.pc + 1)) = .next u)
    (hrun : u.run ≠ .running) : step s = .next u := by
  rw [step_of_fetches h, hexec, andThen_next]
  exact ⟨u, rfl, (advance_of_not_running hrun).symm⟩

/-- `f` is the fault of a write to the operand `o` by the opcode `op`: the operand resolves to a ROM address,
which is the address of the record (R302, R305). -/
def RomWriteOf (op : Byte) (o : Operand) (s : State) (f : Fault) : Prop :=
  ∃ ea, resolve o s = some ea ∧ 0x8000 ≤ ea.toNat ∧ f = .romWrite op (s.pc - 1) ea

theorem exists_romWriteOf :
    (∃ f, RomWriteOf op o s f) ↔ ∃ ea, resolve o s = some ea ∧ 0x8000 ≤ ea.toNat := by
  constructor
  · rintro ⟨f, ea, hea, hrom, -⟩
    exact ⟨ea, hea, hrom⟩
  · rintro ⟨ea, hea, hrom⟩
    exact ⟨_, ea, hea, hrom, rfl⟩

theorem writeByte_fault {a : Addr} :
    writeByte op a v s = .fault f ↔ 0x8000 ≤ a.toNat ∧ f = .romWrite op (s.pc - 1) a := by
  rw [← inRom_iff]
  rcases writeByte_cases op a v s with ⟨hrom, hw⟩ | ⟨hrom, hw⟩ <;> simp [hrom, hw, eq_comm]

theorem writeBack_fault : writeBack op o v s = .fault f ↔ RomWriteOf op o s f := by
  unfold writeBack RomWriteOf
  cases resolve o s <;> simp [writeByte_fault]

theorem storeHigh_fault {index : Byte} : storeHigh op o index v s = .fault f ↔ RomWriteOf op o s f := by
  unfold storeHigh RomWriteOf
  cases resolve o s <;> simp [writeByte_fault]

/-- No address depends on SP (R108 to R118). -/
theorem resolve_setSP (o : Operand) (s : State) (v : Byte) : resolve o (s.setSP v) = resolve o s := by
  cases o <;> rfl

/-- TAS writes SP before its store (R276). -/
theorem tas_fault : tas op o s = .fault f ↔ RomWriteOf op o s f := by
  rw [tas, storeHigh_fault, RomWriteOf, resolve_setSP, setSP_pc, RomWriteOf]

theorem underPolicy_of_fusion (h : s.policy = .fusion) (op : Byte) (meaning : State → Result) :
    underPolicy op meaning s = meaning s := by simp only [underPolicy, h]

end Sys2Proof.Machine
end

section
/-! Family `60_exceptions.md`: the faults of each instruction, and the statements. -/

namespace Sys2Proof.Machine

variable {i : Instr} {s t : State} {v : Byte} {g : State → State}

/-- An instruction faults exactly where it is one of R302's writers and its operand lies in ROM, with the
record of that write. -/
def FaultsAsListed (i : Instr) (s : State) : Prop :=
  ∀ f, exec i s = .fault f ↔ i.opcode ∈ writesMemory ∧ RomWriteOf i.opcode i.operand s f

/-- The stores (R143 to R145, R262). -/
theorem faultsAsListed_of_writeBack (hmem : i.opcode ∈ writesMemory)
    (hexec : exec i s = writeBack i.opcode i.operand v s) : FaultsAsListed i s := by
  intro f
  rw [hexec, writeBack_fault, and_iff_right hmem]

/-- The memory forms that change their operand (R175 to R180, R263 to R268). -/
theorem faultsAsListed_of_writeBack_andThen (hmem : i.opcode ∈ writesMemory)
    (hexec : exec i s = Result.andThen (writeBack i.opcode i.operand v s) g) : FaultsAsListed i s := by
  intro f
  rw [hexec, andThen_fault, writeBack_fault, and_iff_right hmem]

/-- The unstable stores under `fusion` (R276 to R279). -/
theorem faultsAsListed_of_underPolicy {meaning : State → Result} (hpolicy : s.policy = .fusion)
    (hmem : i.opcode ∈ writesMemory) (hexec : exec i s = underPolicy i.opcode meaning s)
    (hfault : ∀ f, meaning s = .fault f ↔ RomWriteOf i.opcode i.operand s f) : FaultsAsListed i s := by
  intro f
  rw [hexec, underPolicy_of_fusion hpolicy, hfault, and_iff_right hmem]

/-- An instruction that completes, and is not listed. -/
theorem faultsAsListed_of_next (hmem : i.opcode ∉ writesMemory) (hexec : exec i s = .next t) :
    FaultsAsListed i s := by
  intro f
  rw [hexec]
  exact ⟨nofun, fun ⟨h, _⟩ => absurd h hmem⟩

/-- R302, by what an instruction does under `fusion`: a store is a write-back; the shifts, increments and
their fusions go on from a write-back; an unstable store writes at its operand; every other instruction
completes. -/
theorem exec_faultsAsListed (hpolicy : s.policy = .fusion) (i : Instr) : FaultsAsListed i s := by
  cases i with
  | staIndirectX | staZeroPage | staAbsolute | staIndirectY | staZeroPageX | staAbsoluteY
  | staAbsoluteX | stxZeroPage | stxAbsolute | stxZeroPageY | styZeroPage | styAbsolute
  | styZeroPageX | saxIndirectX | saxZeroPage | saxAbsolute | saxZeroPageY =>
    exact faultsAsListed_of_writeBack (by simp only [Instr.opcode]; decide +kernel) rfl
  | aslZeroPage | aslAbsolute | aslZeroPageX | aslAbsoluteX
  | lsrZeroPage | lsrAbsolute | lsrZeroPageX | lsrAbsoluteX
  | rolZeroPage | rolAbsolute | rolZeroPageX | rolAbsoluteX
  | rorZeroPage | rorAbsolute | rorZeroPageX | rorAbsoluteX
  | incZeroPage | incAbsolute | incZeroPageX | incAbsoluteX
  | decZeroPage | decAbsolute | decZeroPageX | decAbsoluteX
  | dcpIndirectX | dcpZeroPage | dcpAbsolute | dcpIndirectY | dcpZeroPageX | dcpAbsoluteY
  | dcpAbsoluteX
  | iscIndirectX | iscZeroPage | iscAbsolute | iscIndirectY | iscZeroPageX | iscAbsoluteY
  | iscAbsoluteX
  | sloIndirectX | sloZeroPage | sloAbsolute | sloIndirectY | sloZeroPageX | sloAbsoluteY
  | sloAbsoluteX
  | rlaIndirectX | rlaZeroPage | rlaAbsolute | rlaIndirectY | rlaZeroPageX | rlaAbsoluteY
  | rlaAbsoluteX
  | sreIndirectX | sreZeroPage | sreAbsolute | sreIndirectY | sreZeroPageX | sreAbsoluteY
  | sreAbsoluteX
  | rraIndirectX | rraZeroPage | rraAbsolute | rraIndirectY | rraZeroPageX | rraAbsoluteY
  | rraAbsoluteX =>
    exact faultsAsListed_of_writeBack_andThen (by simp only [Instr.opcode]; decide +kernel) rfl
  | tasAbsoluteY =>
    exact faultsAsListed_of_underPolicy hpolicy (by simp only [Instr.opcode]; decide +kernel) rfl
      fun _ => tas_fault
  | shaAbsoluteY | shaIndirectY | shxAbsoluteY | shyAbsoluteX =>
    exact faultsAsListed_of_underPolicy hpolicy (by simp only [Instr.opcode]; decide +kernel) rfl
      fun _ => storeHigh_fault
  | lxaImmediate | xaaImmediate =>
    exact faultsAsListed_of_next (by simp only [Instr.opcode]; decide +kernel)
      (underPolicy_of_fusion hpolicy _ _)
  | bpl | bmi | bvc | bvs | bcc | bcs | bne | beq =>
    exact faultsAsListed_of_next (by simp only [Instr.opcode]; decide +kernel) (branch_eq_next_setPC _ _ _)
  | _ => exact faultsAsListed_of_next (by simp only [Instr.opcode]; decide +kernel) rfl

end Sys2Proof.Machine

namespace Sys2Proof

open Machine

/-- Settles O25: each halt is one next state, from which a step does not advance. -/
theorem haltsStopTheEngine : Obligations.HaltsStopTheEngine := by
  intro s
  refine ⟨rfl, fun i hi => exec_of_mem_formsKIL hi s, fun hfetch => ?brk, fun i hi hfetch => ?kil⟩
  case brk => exact step_of_exec_halted hfetch rfl nofun
  case kil => exact step_of_exec_halted hfetch (exec_of_mem_formsKIL hi _) nofun

/-- Settles O51, by the faults of each instruction. -/
theorem romWriteExactlyForWritersIntoRom : Obligations.RomWriteExactlyForWritersIntoRom := by
  intro i s hpolicy
  have hfault := exec_faultsAsListed hpolicy i
  refine ⟨?iff, fun f hf => ?record⟩
  case iff => rw [exists_congr hfault, exists_and_left, exists_romWriteOf]
  case record =>
    obtain ⟨-, ea, hea, -, hrecord⟩ := (hfault f).1 hf
    exact ⟨ea, hea, hrecord⟩

end Sys2Proof
end

section
/-! Family `70_reset_and_hazards.md`: the transfers to `snap` (R339). -/

namespace Sys2Proof.Machine

variable {i : Instr} {s u : State} {v : Addr}

theorem poke_setPC (s : State) (v : Addr) (a : Addr) (b : Byte) :
    (s.setPC v).poke a b = (s.poke a b).setPC v := by
  unfold State.poke; split <;> rfl

theorem push_setPC (s : State) (v : Addr) (b : Byte) : (s.setPC v).push b = (s.push b).setPC v :=
  congrArg (State.setSP · (s.sp - 1)) (poke_setPC s v (stackAddr s.sp) b)

/-- A push takes its address from SP, so PC may be written before it or after it (R127). -/
theorem push16_setPC (s : State) (v w : Addr) : (s.setPC v).push16 w = (s.push16 w).setPC v := by
  rw [State.push16, push_setPC, push_setPC, State.push16]

@[simp] theorem push16_run (s : State) (w : Addr) : (s.push16 w).run = s.run := by simp [State.push16]

/-- For an instruction of one byte the advance is 0: it ends where it transfers to, `snap` or not (R339). -/
theorem step_of_exec_setPC_of_length_one (h : Fetches i s) (hlen : i.length = 1)
    (hexec : exec i (s.setPC (s.pc + 1)) = .next (u.setPC v)) (hrun : u.run = .running) :
    step s = .next (u.setPC v) := by
  have hskip : (if v = s.pc + 1 then s.pc + BitVec.ofNat 16 1 else v) = v := ite_eq_right_iff.2 Eq.symm
  rw [step_of_exec_setPC h hexec hrun, hlen, hskip]

/-- JSR pushes the address of its last byte, the second after the opcode byte (R221). -/
theorem exec_jsrAbsolute_after_opcode (w : Addr) (s : State) :
    exec (.jsrAbsolute w) (s.setPC (s.pc + 1)) = .next ((s.push16 (s.pc + 2)).setPC w) := by
  have hexec : exec (.jsrAbsolute w) (s.setPC (s.pc + 1)) =
      .next (((s.setPC (s.pc + 1)).push16 (s.pc + 1 + 1)).setPC w) := rfl
  have hlast : s.pc + 1 + 1 = s.pc + 2 := BitVec.add_assoc s.pc 1 1
  rw [hexec, push16_setPC, setPC_setPC, hlast]

end Sys2Proof.Machine

namespace Sys2Proof

open Machine

/-- Settles O16: the branches and both jumps by the statements of their steps (O14, O15), JSR by its pushes
and the advance, RTS and RTI by their length. -/
theorem transferToSnapFallsThrough : Obligations.TransferToSnapFallsThrough := by
  intro w s
  obtain ⟨-, -, hjump, hjumpIndirect⟩ := jumpsSetPC w s
  refine ⟨fun c hc hfetch htaken => ?branch, fun hfetch => ⟨_, hjump hfetch, rfl⟩,
    fun hfetch target htarget => ⟨_, hjumpIndirect hfetch target htarget, rfl⟩,
    fun hfetch => ?jsr, fun hfetch => ?rts, fun hfetch => ?rti⟩
  case branch => exact ⟨_, branchStepEndsAtTargetOrNext 0xFF s c hc hfetch, if_neg fun ⟨_, h⟩ => h rfl⟩
  case jsr =>
    have hrun : (s.push16 (s.pc + 2)).run = .running := (push16_run _ _).trans hfetch.running
    exact step_of_exec_setPC hfetch (exec_jsrAbsolute_after_opcode w s) hrun
  case rts =>
    have hexec : exec .rts (s.setPC (s.pc + 1)) = .next (s.pulled16.setPC (s.pullWord + 1)) := rfl
    exact ⟨_, step_of_exec_setPC_of_length_one hfetch rfl hexec hfetch.running, rfl⟩
  case rti =>
    have hexec : exec .rti (s.setPC (s.pc + 1)) = .next s.returnFromInterrupt := rfl
    exact ⟨_, step_of_exec_setPC_of_length_one hfetch rfl hexec hfetch.running, rfl⟩

end Sys2Proof
end

section
/-! The meaning of an instruction by its mnemonic, opcode byte and operand: what `exec` says for each of the 256
opcode bytes, said once for each of the 76 mnemonics. -/

namespace Sys2Proof.Machine

/-- A branch to what its operand resolves to (R210). -/
def branchTo (cond : Bool) (o : Operand) (s : State) : Result := if cond then jumpTo o s else .next s

/-- What an instruction with mnemonic `m`, opcode byte `op` and operand `o` does. -/
def meaning (m : Mnemonic) (op : Byte) (o : Operand) (s : State) : Result :=
  match m with
  | .LDA => lda o s
  | .LDX => ldx o s
  | .LDY => ldy o s
  | .STA => sta op o s
  | .STX => stx op o s
  | .STY => sty op o s
  | .TAX => execTax s
  | .TAY => execTay s
  | .TSX => execTsx s
  | .TXA => execTxa s
  | .TXS => execTxs s
  | .TYA => execTya s
  | .ADC => adc o s
  | .SBC => sbc o s
  | .AND => andA o s
  | .ORA => ora o s
  | .EOR => eor o s
  | .ASL => asl op o s
  | .LSR => lsr op o s
  | .ROL => rol op o s
  | .ROR => ror op o s
  | .INC => inc op o s
  | .DEC => dec op o s
  | .INX => execInx s
  | .INY => execIny s
  | .DEX => execDex s
  | .DEY => execDey s
  | .CMP => cmp o s
  | .CPX => cpx o s
  | .CPY => cpy o s
  | .BIT => bit o s
  | .BCC => branchTo (!s.flag .C) o s
  | .BCS => branchTo (s.flag .C) o s
  | .BEQ => branchTo (s.flag .Z) o s
  | .BNE => branchTo (!s.flag .Z) o s
  | .BPL => branchTo (!s.flag .N) o s
  | .BMI => branchTo (s.flag .N) o s
  | .BVC => branchTo (!s.flag .V) o s
  | .BVS => branchTo (s.flag .V) o s
  | .JMP => jumpTo o s
  | .JSR => jumpTo o (s.push16 (s.pc + 1))
  | .RTS => execRts s
  | .RTI => execRti s
  | .PHA => execPha s
  | .PHP => execPhp s
  | .PLA => execPla s
  | .PLP => execPlp s
  | .SEC => execSec s
  | .CLC => execClc s
  | .SEI => execSei s
  | .CLI => execCli s
  | .SED => execSed s
  | .CLD => execCld s
  | .CLV => execClv s
  | .NOP => .next s
  | .BRK => execBrk s
  | .KIL => kil s
  | .LAX => lax o s
  | .SAX => sax op o s
  | .LAS => las o s
  | .DCP => dcp op o s
  | .ISC => isc op o s
  | .SLO => slo op o s
  | .RLA => rla op o s
  | .SRE => sre op o s
  | .RRA => rra op o s
  | .ANC => anc (readOperand o s) s
  | .ALR => execAlrImmediate (readOperand o s) s
  | .ARR => execArrImmediate (readOperand o s) s
  | .AXS => execAxsImmediate (readOperand o s) s
  | .LXA => underPolicy op (lxa (readOperand o s)) s
  | .XAA => underPolicy op (xaa (readOperand o s)) s
  | .SHA => underPolicy op (sha op o) s
  | .SHX => underPolicy op (shx op o) s
  | .SHY => underPolicy op (shy op o) s
  | .TAS => underPolicy op (tas op o) s

end Sys2Proof.Machine
end

section
/-! The opcode map against the encoder (R81, R88): what each opcode byte decodes to, and the two round trips of
30_encoding.md. -/

namespace Sys2Proof

open Machine

variable {op b c : Byte} {bs rest : List Byte} {i : Instr} {sh : Shape}

/-- `i` is an instruction of the row `e` with the operand bytes given: its bytes, its mode, its length and its
meaning are those of the row. -/
structure HasRow (e : OpEntry) (bytes : List Byte) (i : Instr) : Prop where
  encode_eq : encode i = e.code :: bytes
  mode_eq : i.operand.mode = e.mode
  length_eq : i.length = e.length
  exec_eq : ∀ s, exec i s = meaning e.mnemonic e.code i.operand s

/-- What a shape builds has the row `e`, with the operand bytes of its format (R81). -/
inductive Shape.Fits (e : OpEntry) : Shape → Prop where
  | f1 {i : Instr} : HasRow e [] i → Fits e (.f1 i)
  | f2 {build : Byte → Instr} : (∀ b, HasRow e [b] (build b)) → Fits e (.f2 build)
  | f3 {build : Addr → Instr} : (∀ w, HasRow e [lo w, hi w] (build w)) → Fits e (.f3 build)

/-- Row by row, the opcode map builds the instructions of the opcode table (R88, R89). -/
theorem instrTable_fits_opTable : List.Forall₂ Shape.Fits opTable instrTable := by
  unfold opTable instrTable
  repeat' apply List.rel_append
  all_goals repeat' first | intro _ | constructor

/-- The opcode table has the rows of the bytes 0x00 to 0xFF, in byte order (R87, R88). -/
theorem opTable_codes : opTable.map OpEntry.code = (List.range 256).map (BitVec.ofNat 8) := by
  decide +kernel

theorem opTable_length : opTable.length = 256 := by
  rw [← List.length_map (f := OpEntry.code), opTable_codes, List.length_map, List.length_range]

/-- Every opcode byte has its row (R87). -/
theorem exists_opEntry (op : Byte) : ∃ e, opEntry op = some e ∧ e.code = op := by
  have hcode : (opEntry op).map OpEntry.code = some op := by
    rw [opEntry, ← List.getElem?_map, opTable_codes, List.getElem?_map, List.getElem?_range op.isLt]
    simp
  exact Option.map_eq_some_iff.1 hcode

/-- Every opcode byte has its shape, which fits its row. -/
theorem exists_shape_fits {e : OpEntry} (h : opEntry op = some e) :
    ∃ sh, instrTable[op.toNat]? = some sh ∧ sh.Fits e := by
  obtain ⟨hlt, rfl⟩ := List.getElem?_eq_some_iff.1 h
  have hlt' := instrTable_fits_opTable.length_eq ▸ hlt
  exact ⟨_, List.getElem?_eq_getElem hlt', instrTable_fits_opTable.get hlt hlt'⟩

/-- `i` is what a shape builds from some operand. -/
inductive Shape.Builds : Shape → Instr → Prop where
  | f1 {i : Instr} : Builds (.f1 i) i
  | f2 {build : Byte → Instr} {b : Byte} : Builds (.f2 build) (build b)
  | f3 {build : Addr → Instr} {w : Addr} : Builds (.f3 build) (build w)

/-- The opcode map builds each instruction from its opcode byte. -/
theorem exists_shape_builds (i : Instr) :
    ∃ sh, instrTable[i.opcode.toNat]? = some sh ∧ sh.Builds i := by
  cases i <;> exact ⟨_, rfl, by constructor⟩

theorem decode_f1 (h : instrTable[op.toNat]? = some (.f1 i)) : decode (op :: bs) = .ok (i, bs) := by
  simp only [decode, h]

theorem decode_f2 {build : Byte → Instr} (h : instrTable[op.toNat]? = some (.f2 build)) :
    decode (op :: b :: bs) = .ok (build b, bs) := by
  simp only [decode, h]

theorem decode_f3 {build : Addr → Instr} (h : instrTable[op.toNat]? = some (.f3 build)) :
    decode (op :: b :: c :: bs) = .ok (build (word c b), bs) := by
  simp only [decode, h]

/-- A two-byte instruction without its operand byte does not decode. -/
theorem exists_cons_of_decode_f2 {build : Byte → Instr} (h : instrTable[op.toNat]? = some (.f2 build))
    (hd : decode (op :: bs) = .ok (i, rest)) : ∃ b tail, bs = b :: tail := by
  cases bs with
  | nil => simp [decode, h] at hd
  | cons b tail => exact ⟨b, tail, rfl⟩

/-- A three-byte instruction without its two operand bytes does not decode. -/
theorem exists_cons_cons_of_decode_f3 {build : Addr → Instr}
    (h : instrTable[op.toNat]? = some (.f3 build)) (hd : decode (op :: bs) = .ok (i, rest)) :
    ∃ b c tail, bs = b :: c :: tail := by
  rcases bs with _ | ⟨b, _ | ⟨c, tail⟩⟩
  · simp [decode, h] at hd
  · simp [decode, h] at hd
  · exact ⟨b, c, tail, rfl⟩

theorem lo_word (h l : Byte) : lo (word h l) = l := BitVec.eq_of_toNat_eq (by
  rw [toNat_lo, toNat_word, Nat.add_mul_mod_self_left, Nat.mod_eq_of_lt l.isLt])

theorem hi_word (h l : Byte) : hi (word h l) = h := BitVec.eq_of_toNat_eq (by
  have := l.isLt
  rw [toNat_hi, toNat_word]
  omega)

/-- The shape and the row at the opcode byte of an instruction: the shape builds it and fits the row. -/
theorem exists_shape_row (i : Instr) :
    ∃ sh e, instrTable[i.opcode.toNat]? = some sh ∧ sh.Builds i ∧
      opEntry i.opcode = some e ∧ e.code = i.opcode ∧ sh.Fits e := by
  obtain ⟨sh, hsh, hbuilds⟩ := exists_shape_builds i
  obtain ⟨e, hentry, hcode⟩ := exists_opEntry i.opcode
  obtain ⟨sh', hsh', hfits⟩ := exists_shape_fits hentry
  obtain rfl : sh' = sh := Option.some.inj (hsh'.symm.trans hsh)
  exact ⟨sh', e, hsh, hbuilds, hentry, hcode, hfits⟩

/-- Each instruction is one of the row of its opcode byte (R82, R88). -/
theorem hasRow_of_opEntry {e : OpEntry} (h : opEntry i.opcode = some e) :
    e.code = i.opcode ∧ HasRow e i.operand.bytes i := by
  obtain ⟨sh, e', -, hbuilds, hentry, hcode, hfits⟩ := exists_shape_row i
  obtain rfl : e' = e := Option.some.inj (hentry.symm.trans h)
  have hrow : ∃ bytes, HasRow e' bytes i := by
    cases hbuilds with
    | f1 => cases hfits with | f1 hrow => exact ⟨_, hrow⟩
    | f2 => cases hfits with | f2 hrow => exact ⟨_, hrow _⟩
    | f3 => cases hfits with | f3 hrow => exact ⟨_, hrow _⟩
  obtain ⟨bytes, hrow⟩ := hrow
  obtain rfl := (List.cons.inj hrow.encode_eq).2
  exact ⟨hcode, hrow⟩

/-- An instruction does what its mnemonic means. -/
theorem exists_exec_eq_meaning (i : Instr) :
    ∃ e, opEntry i.opcode = some e ∧ ∀ s, exec i s = meaning e.mnemonic i.opcode i.operand s := by
  obtain ⟨e, hentry, hcode⟩ := exists_opEntry i.opcode
  obtain ⟨-, hrow⟩ := hasRow_of_opEntry hentry
  exact ⟨e, hentry, fun s => hcode ▸ hrow.exec_eq s⟩

/-- Settles O39: the shape at the opcode byte builds the instruction from its operand bytes. -/
theorem decodeOfEncodeIsIdentity : Obligations.DecodeOfEncodeIsIdentity := by
  intro i rest
  obtain ⟨sh, e, hsh, hbuilds, -, hcode, hfits⟩ := exists_shape_row i
  rw [← hcode] at hsh
  cases hbuilds with
  | f1 => cases hfits with
    | f1 hrow => rw [hrow.encode_eq]; exact decode_f1 hsh
  | f2 => cases hfits with
    | f2 hrow => rw [(hrow _).encode_eq]; exact decode_f2 hsh
  | @f3 build w => cases hfits with
    | f3 hrow =>
      have hdecode : decode (e.code :: lo w :: hi w :: rest) = .ok (build (word (hi w) (lo w)), rest) :=
        decode_f3 hsh
      rw [word_hi_lo] at hdecode
      rw [(hrow w).encode_eq]; exact hdecode

/-- Settles O40: whatever the shape at the first byte builds encodes to that byte and the operand bytes it was
built from. -/
theorem encodeOfDecodeIsIdentity : Obligations.EncodeOfDecodeIsIdentity := by
  intro bs rest i hd
  cases bs with
  | nil => cases hd
  | cons op bs =>
    obtain ⟨e, hentry, rfl⟩ := exists_opEntry op
    obtain ⟨sh, hsh, hfits⟩ := exists_shape_fits hentry
    cases hfits with
    | f1 hrow =>
      cases (decode_f1 hsh).symm.trans hd
      rw [hrow.encode_eq]; rfl
    | f2 hrow =>
      obtain ⟨b, tail, rfl⟩ := exists_cons_of_decode_f2 hsh hd
      cases (decode_f2 hsh).symm.trans hd
      rw [(hrow b).encode_eq]; rfl
    | f3 hrow =>
      obtain ⟨b, c, tail, rfl⟩ := exists_cons_cons_of_decode_f3 hsh hd
      cases (decode_f3 hsh).symm.trans hd
      rw [(hrow _).encode_eq, lo_word, hi_word]; rfl

end Sys2Proof
end

section
/-! What a decoded instruction has in common with its row of the opcode table (R82, R87, R101, R102), and the
statements about the table, the decoder and the fetch. -/

namespace Sys2Proof

open Machine

variable {op b c : Byte} {bs rest : List Byte} {i : Instr} {s : State}

/-- The length of an instruction counts its opcode byte and its operand bytes (R81). -/
theorem length_bytes_add_one (o : Operand) : o.bytes.length + 1 = o.mode.length := by
  cases o <;> rfl

/-- What was decoded has the first byte as its opcode byte, and its operand bytes come next. -/
theorem opcode_bytes_of_decode (h : decode (op :: bs) = .ok (i, rest)) :
    i.opcode = op ∧ i.operand.bytes ++ rest = bs :=
  List.cons_eq_cons.1 (encodeOfDecodeIsIdentity _ _ _ h)

/-- An opcode byte with two bytes after it decodes. -/
theorem exists_decode (op b c : Byte) : ∃ i rest, decode [op, b, c] = .ok (i, rest) := by
  obtain ⟨e, hentry, -⟩ := exists_opEntry op
  obtain ⟨sh, hsh, -⟩ := exists_shape_fits hentry
  cases sh with
  | f1 i => exact ⟨_, _, decode_f1 hsh⟩
  | f2 build => exact ⟨_, _, decode_f2 hsh⟩
  | f3 build => exact ⟨_, _, decode_f3 hsh⟩

/-- An operand is what its mode assembles from its bytes, whatever follows them (R84). -/
theorem assemble_of_bytes_append {o : Operand} (h : o.bytes ++ rest = [b, c]) :
    Operand.assemble o.mode b c = o := by
  cases o <;> cases h <;> simp [Operand.assemble, Operand.mode, word_hi_lo]

/-- Settles O41, by the encoding of what was decoded and the row of its opcode byte. -/
theorem lengthComesFromOpcodeByte : Obligations.LengthComesFromOpcodeByte := by
  intro op bs rest i h
  obtain ⟨rfl, rfl⟩ := opcode_bytes_of_decode h
  obtain ⟨e, hentry, hcode⟩ := exists_opEntry i.opcode
  obtain ⟨-, -, hmode, hlength, -⟩ := hasRow_of_opEntry hentry
  have hbytes := length_bytes_add_one i.operand
  refine ⟨e, hentry, hcode, ?_, hmode, ?_⟩
  · rw [← hlength, ← hmode]; rfl
  · rw [← hlength, Instr.length, List.length_append]
    omega

/-- Settles O42: the table has the row of every byte, and the opcode map its shape. -/
theorem opcodeTableIsTotal : Obligations.OpcodeTableIsTotal := by
  refine ⟨fun op b1 b2 => ?_, opTable_length, by decide +kernel, by decide +kernel⟩
  obtain ⟨e, hentry, -⟩ := exists_opEntry op
  obtain ⟨i, rest, hdecode⟩ := exists_decode op b1 b2
  exact ⟨e, i, rest, hentry, hdecode⟩

/-- Settles O43, by running the decoder. -/
theorem writtenWordsDecode : Obligations.WrittenWordsDecode := by
  unfold Obligations.WrittenWordsDecode
  decide

namespace Machine

/-- Every fetch decodes, to an instruction whose encoding starts the fetched bytes (R101, R102). -/
theorem exists_fetchInstr (s : State) :
    ∃ i rest, s.fetchInstr = .ok i ∧ i.opcode = s.readByte s.pc ∧
      i.operand.bytes ++ rest = [s.readByte (s.pc + 1), s.readByte (s.pc + 2)] := by
  obtain ⟨i, rest, hdecode⟩ :=
    exists_decode (s.readByte s.pc) (s.readByte (s.pc + 1)) (s.readByte (s.pc + 2))
  exact ⟨i, rest, fetchInstr_of_decode hdecode, opcode_bytes_of_decode hdecode⟩

end Machine

/-- Settles O45: the instruction fetched has the opcode byte at PC, and its operand is assembled from the
bytes at `snap`. -/
theorem everyFetchDecodes : Obligations.EveryFetchDecodes := by
  intro s
  obtain ⟨i, rest, hfetch, hop, hbytes⟩ := exists_fetchInstr s
  obtain ⟨e, hentry, -⟩ := exists_opEntry i.opcode
  obtain ⟨-, -, hmode, hlength, -⟩ := hasRow_of_opEntry hentry
  refine ⟨i, e, hfetch, hop, hop ▸ hentry, hlength, ?_⟩
  have hnext : s.pc + 1 + 1 = s.pc + 2 := BitVec.add_assoc s.pc 1 1
  rw [fetchOperand, setPC_pc, hnext, ← hmode]
  exact (assemble_of_bytes_append hbytes).symm

end Sys2Proof
end

section
/-! What an operation leaves true of its next states, and the memory invariant and the ROM image under every
operation (R35, R60). -/

namespace Sys2Proof.Machine

variable {s t u : State} {r : Result} {P : State → Prop} {f : State → State} {o : Operand}
  {op v : Byte} {fault : Fault}

/-- Every next state of an operation has the property. -/
def Always (P : State → Prop) (r : Result) : Prop := ∀ t, r = .next t → P t

theorem always_next (h : P u) : Always P (.next u) := by
  rintro _ ⟨⟩; exact h

theorem always_andThen (h : Always (fun u => P (f u)) r) : Always P (r.andThen f) := by
  intro t ht
  obtain ⟨u, hu, rfl⟩ := andThen_next.1 ht
  exact h u hu

/-- A write-back writes A or pokes (R121). -/
theorem always_writeBack (hA : P (s.setA v)) (hpoke : ∀ a, P (s.poke a v)) :
    Always P (writeBack op o v s) := by
  intro t ht
  rcases writeBack_cases op o v s with ⟨-, hw⟩ | ⟨ea, -, -, hw⟩ | ⟨ea, -, -, hw⟩ <;>
    rw [hw] at ht <;> cases ht
  · exact hA
  · exact hpoke ea

theorem always_writeByte {a : Addr} (hpoke : P (s.poke a v)) : Always P (writeByte op a v s) := by
  intro t ht
  rcases writeByte_cases op a v s with ⟨-, hw⟩ | ⟨-, hw⟩ <;>
    rw [hw] at ht <;> cases ht
  exact hpoke

/-- An unstable store is one byte write, or nothing where the operand has no address (D14). -/
theorem storeHigh_cases (op : Byte) (o : Operand) (index v : Byte) (s : State) :
    storeHigh op o index v s = .next s ∨ ∃ a w, storeHigh op o index v s = writeByte op a w s := by
  unfold storeHigh
  cases resolve o s with
  | none => exact .inl rfl
  | some ea => exact .inr ⟨ea, _, rfl⟩

theorem always_storeHigh {index : Byte} (h : P s) (hpoke : ∀ a w, P (s.poke a w)) :
    Always P (storeHigh op o index v s) := by
  rcases storeHigh_cases op o index v s with hw | ⟨a, w, hw⟩ <;> rw [hw]
  · exact always_next h
  · exact always_writeByte (hpoke a w)

theorem always_jumpTo (h : P s) (hpc : ∀ v, P (s.setPC v)) : Always P (jumpTo o s) := by
  unfold jumpTo
  cases resolve o s with
  | none => exact always_next h
  | some target => exact always_next (hpc target)

theorem always_branchTo {cond : Bool} (h : P s) (hpc : ∀ v, P (s.setPC v)) :
    Always P (branchTo cond o s) := by
  cases cond
  · exact always_next h
  · exact always_jumpTo h hpc

theorem always_underPolicy {g : State → Result} (h : Always P (g s)) : Always P (underPolicy op g s) := by
  unfold underPolicy
  split
  · exact h
  · nofun

/-- From `s` to `t` the memory invariant is kept, and with it the ROM image and the parameters (R35, R60). -/
def KeepsMachine (s t : State) : Prop := s.memOk = true → t.memOk = true ∧ SameMachine s t

theorem keepsMachine_of_mem (hmem : t.mem = s.mem) (hsize : t.prgSize = s.prgSize)
    (hpolicy : t.policy = s.policy) (hreset : t.resetDone = s.resetDone) : KeepsMachine s t := by
  intro h
  refine ⟨?_, hsize, hpolicy, hreset, fun a _ => readByte_congr hmem hsize a⟩
  rwa [State.memOk, hmem, hsize]

theorem KeepsMachine.trans (h₁ : KeepsMachine s t) (h₂ : KeepsMachine t u) : KeepsMachine s u := by
  intro h
  obtain ⟨ht, hsize, hpolicy, hreset, hrom⟩ := h₁ h
  obtain ⟨hu, hsize', hpolicy', hreset', hrom'⟩ := h₂ ht
  exact ⟨hu, hsize'.trans hsize, hpolicy'.trans hpolicy, hreset'.trans hreset,
    fun a ha => (hrom' a ha).trans (hrom a ha)⟩

theorem keepsMachine_poke (s : State) (a : Addr) (v : Byte) : KeepsMachine s (s.poke a v) := by
  intro h
  obtain ⟨hwf, -⟩ := memOk_iff.1 h
  exact ⟨memOk_poke h, by simp, by simp, by simp, fun b hb => rom_poke hwf hb⟩

theorem keepsMachine_push (s : State) (b : Byte) : KeepsMachine s (s.push b) :=
  (keepsMachine_poke s _ b).trans (keepsMachine_of_mem rfl rfl rfl rfl)

theorem keepsMachine_push16 (s : State) (w : Addr) : KeepsMachine s (s.push16 w) :=
  (keepsMachine_push s _).trans (keepsMachine_push _ _)

theorem keepsMachine_returnFromInterrupt (s : State) : KeepsMachine s s.returnFromInterrupt := by
  apply keepsMachine_of_mem <;> simp [State.returnFromInterrupt, State.pulled16]

/-- The mnemonics of the seven unstable opcodes under `UNSTABLE_POLICY` (R10). -/
def unstableMnemonics : List Mnemonic := [.LXA, .XAA, .SHA, .SHX, .SHY, .TAS]

/-- How the meaning of an instruction ends: a next state keeps the machine, a fault is that of a write to the
operand, and nothing is refused. -/
structure Ends (op : Byte) (o : Operand) (s : State) (r : Result) : Prop where
  next : Always (KeepsMachine s) r
  fault : ∀ f, r = .fault f → RomWriteOf op o s f
  refused : ∀ e, r ≠ .refused e

theorem ends_next (h : KeepsMachine s u) : Ends op o s (.next u) := ⟨always_next h, nofun, nofun⟩

theorem ends_writeBack : Ends op o s (writeBack op o v s) := by
  refine ⟨always_writeBack (keepsMachine_of_mem rfl rfl rfl rfl) fun a => keepsMachine_poke s a v,
    fun f => writeBack_fault.1, fun e he => ?_⟩
  rcases writeBack_cases op o v s with ⟨-, hw⟩ | ⟨ea, -, -, hw⟩ | ⟨ea, -, -, hw⟩ <;>
    rw [hw] at he <;> cases he

theorem ends_andThen (h : Ends op o s r) (hf : ∀ u, KeepsMachine u (f u)) : Ends op o s (r.andThen f) :=
  ⟨always_andThen fun u hu => (h.next u hu).trans (hf u), fun _ he => h.fault _ (andThen_fault.1 he),
    fun _ he => h.refused _ (andThen_refused.1 he)⟩

theorem ends_jumpTo (h : KeepsMachine s u) {o' : Operand} : Ends op o s (jumpTo o' u) := by
  unfold jumpTo
  cases resolve o' u with
  | none => exact ends_next h
  | some target => exact ends_next (h.trans (keepsMachine_of_mem rfl rfl rfl rfl))

theorem ends_branchTo {cond : Bool} : Ends op o s (branchTo cond o s) := by
  have hself : KeepsMachine s s := keepsMachine_of_mem rfl rfl rfl rfl
  cases cond
  · exact ends_next hself
  · exact ends_jumpTo hself

theorem writeByte_ne_refused {a : Addr} (e : Refusal) : writeByte op a v s ≠ .refused e := by
  rcases writeByte_cases op a v s with ⟨-, hw⟩ | ⟨-, hw⟩ <;> rw [hw] <;> nofun

theorem ends_storeHigh {index : Byte} : Ends op o s (storeHigh op o index v s) := by
  refine ⟨always_storeHigh (keepsMachine_of_mem rfl rfl rfl rfl) fun a w => keepsMachine_poke s a w,
    fun f => storeHigh_fault.1, fun e => ?_⟩
  rcases storeHigh_cases op o index v s with hw | ⟨a, w, hw⟩ <;> rw [hw]
  · nofun
  · exact writeByte_ne_refused e

theorem ends_tas : Ends op o s (tas op o s) := by
  have hsp : KeepsMachine s (s.setSP (s.a &&& s.x)) := keepsMachine_of_mem rfl rfl rfl rfl
  obtain ⟨hnext, -, hrefused⟩ := ends_storeHigh (op := op) (o := o) (s := s.setSP (s.a &&& s.x))
    (index := s.y) (v := s.a &&& s.x)
  exact ⟨fun t ht => hsp.trans (hnext t ht), fun f => tas_fault.1, hrefused⟩

theorem ends_underPolicy {g : State → Result} (hpolicy : s.policy = .fusion) (h : Ends op o s (g s)) :
    Ends op o s (underPolicy op g s) := by
  rwa [underPolicy_of_fusion hpolicy]

/-- By what a mnemonic does: the stores write back; the shifts, increments and their fusions go on from a
write-back; the branches and jumps transfer; the unstable opcodes run under the policy; the pushes store in the
stack page; every other has one next state, with the memory of `s`. -/
theorem meaning_ends {m : Mnemonic} (h : s.policy = .fusion ∨ m ∉ unstableMnemonics) (op : Byte)
    (o : Operand) :
    Ends op o s (meaning m op o s) := by
  cases m with
  | STA | STX | STY | SAX => exact ends_writeBack
  | ASL | LSR | ROL | ROR | INC | DEC | DCP | ISC | SLO | RLA | SRE | RRA =>
    exact ends_andThen ends_writeBack fun u => keepsMachine_of_mem (by simp) (by simp) (by simp) (by simp)
  | BCC | BCS | BEQ | BNE | BPL | BMI | BVC | BVS => exact ends_branchTo
  | JMP => exact ends_jumpTo (keepsMachine_of_mem rfl rfl rfl rfl)
  | JSR => exact ends_jumpTo (keepsMachine_push16 s _)
  | PHA | PHP => exact ends_next (keepsMachine_push s _)
  | LXA | XAA =>
    have hpolicy := h.resolve_right fun h => h (by decide)
    exact ends_underPolicy hpolicy (ends_next (keepsMachine_of_mem rfl rfl rfl rfl))
  | SHA | SHX | SHY =>
    have hpolicy := h.resolve_right fun h => h (by decide)
    exact ends_underPolicy hpolicy ends_storeHigh
  | TAS =>
    have hpolicy := h.resolve_right fun h => h (by decide)
    exact ends_underPolicy hpolicy ends_tas
  | RTS => exact ends_next (keepsMachine_of_mem rfl rfl rfl rfl)
  | RTI => exact ends_next (keepsMachine_returnFromInterrupt s)
  | _ => exact ends_next (keepsMachine_of_mem (by simp) (by simp) (by simp) (by simp))

/-- Under the policy `refuse` the unstable opcodes have no meaning (R284). -/
theorem meaning_refused {m : Mnemonic} (hpolicy : s.policy = .refuse) (h : m ∈ unstableMnemonics) (op : Byte)
    (o : Operand) : meaning m op o s = .refused (.unstableOpcode op (s.pc - 1)) := by
  have hrefused (g : State → Result) : underPolicy op g s = .refused (.unstableOpcode op (s.pc - 1)) := by
    simp only [underPolicy, hpolicy]
  fin_cases h <;> exact hrefused _

/-- An opcode has its meaning, or it is unstable and the policy refuses it (R10). -/
theorem policy_cases (s : State) (m : Mnemonic) :
    (s.policy = .fusion ∨ m ∉ unstableMnemonics) ∨ (s.policy = .refuse ∧ m ∈ unstableMnemonics) := by
  cases hpolicy : s.policy
  · exact .inl (.inl rfl)
  · by_cases hm : m ∈ unstableMnemonics
    · exact .inr ⟨rfl, hm⟩
    · exact .inl (.inr hm)

/-- An instruction ends as its mnemonic does, or is an unstable opcode that the policy refuses. -/
theorem exec_ends_or_refused (i : Instr) (s : State) :
    Ends i.opcode i.operand s (exec i s) ∨ exec i s = .refused (.unstableOpcode i.opcode (s.pc - 1)) := by
  obtain ⟨e, -, hexec⟩ := exists_exec_eq_meaning i
  rw [hexec]
  rcases policy_cases s e.mnemonic with h | ⟨hpolicy, hunstable⟩
  · exact .inl (meaning_ends h _ _)
  · exact .inr (meaning_refused hpolicy hunstable _ _)

theorem exec_fault (i : Instr) (h : exec i s = .fault fault) : RomWriteOf i.opcode i.operand s fault := by
  rcases exec_ends_or_refused i s with hends | hrefused
  · exact hends.fault fault h
  · rw [hrefused] at h; cases h

theorem exec_keepsMachine (i : Instr) (h : exec i s = .next t) : KeepsMachine s t := by
  rcases exec_ends_or_refused i s with hends | hrefused
  · exact hends.next t h
  · rw [hrefused] at h; cases h

/-- Why no step is taken from a state, if none is (R39, R105). -/
def stepRefusal (s : State) : Option Refusal :=
  match s.resetDone, s.run with
  | false, _ => some .beforeReset
  | true, .halted reason => some (.engineHalted reason)
  | true, .faulted record => some (.engineFaulted record)
  | true, .running => none

theorem step_of_stepRefusal {e : Refusal} (h : stepRefusal s = some e) : step s = .refused e := by
  unfold stepRefusal at h
  split at h <;> cases h <;> simp only [step, *]

/-- A step is refused with its reason, or runs the instruction at PC (R100 to R105). -/
theorem step_cases (s : State) : (∃ e, stepRefusal s = some e ∧ step s = .refused e) ∨
    ∃ i, Fetches i s ∧ i.opcode = s.readByte s.pc ∧
      step s = Result.andThen (exec i (s.setPC (s.pc + 1))) (State.advance (s.pc + 1) i.length) := by
  cases hrefusal : stepRefusal s with
  | some e => exact .inl ⟨e, rfl, step_of_stepRefusal hrefusal⟩
  | none =>
    obtain ⟨i, -, hfetch, hop, -⟩ := exists_fetchInstr s
    have hfetches : Fetches i s := by
      unfold stepRefusal at hrefusal
      split at hrefusal <;> cases hrefusal
      next hreset hrun => exact ⟨hreset, hrun, hfetch⟩
    exact .inr ⟨i, hfetches, hop, step_of_fetches hfetches⟩

theorem step_keepsMachine (h : step s = .next t) : KeepsMachine s t := by
  rcases step_cases s with ⟨e, -, hstep⟩ | ⟨i, -, -, hstep⟩ <;> rw [hstep] at h
  · cases h
  · obtain ⟨u, hu, rfl⟩ := andThen_next.1 h
    have hsnap : KeepsMachine s (s.setPC (s.pc + 1)) := keepsMachine_of_mem rfl rfl rfl rfl
    have hadvance : KeepsMachine u (u.advance (s.pc + 1) i.length) :=
      keepsMachine_of_mem (by simp) (by simp) (by simp) (by simp)
    exact (hsnap.trans (exec_keepsMachine i hu)).trans hadvance

end Sys2Proof.Machine

namespace Sys2Proof

open Machine

/-- Settles O46: a step that gives a next state has fetched from a running engine. -/
theorem noStepFromHaltedOrFaulted : Obligations.NoStepFromHaltedOrFaulted := by
  intro s t hrun hstep
  rcases step_cases s with ⟨e, -, hrefused⟩ | ⟨i, hfetches, -, -⟩
  · rw [hrefused] at hstep; cases hstep
  · exact hrun hfetches.running

/-- Settles O52: each operation of a step keeps the machine. -/
theorem stepKeepsMemoryInvariant : Obligations.StepKeepsMemoryInvariant := by
  intro s t hok hstep
  exact (step_keepsMachine hstep hok).1

/-- Settles O54: each operation of a step keeps the machine. -/
theorem stepKeepsRomAndParameters : Obligations.StepKeepsRomAndParameters := by
  intro s t hok hstep
  exact (step_keepsMachine hstep hok).2

/-- Settles O55, by induction on the steps of the run. -/
theorem romIsImmutableAlongRuns : Obligations.RomIsImmutableAlongRuns := by
  intro s t hok hreaches
  induction hreaches with
  | refl => exact keepsMachine_of_mem rfl rfl rfl rfl hok
  | step _ hstep ih => exact KeepsMachine.trans (fun _ => ih) (step_keepsMachine hstep) hok

/-- The opcode bytes of the unstable mnemonics, row by row of the opcode table. -/
theorem opTable_unstable : ∀ e ∈ opTable, (e.mnemonic ∈ unstableMnemonics ↔
    e.code ∈ [(0x8B : Byte), 0xAB, 0x93, 0x9F, 0x9E, 0x9C, 0x9B]) := by
  decide +kernel

/-- Settles O31: an unstable mnemonic refuses under the policy `refuse`, and nothing else does. -/
theorem refusedExactlyUnderRefusePolicy : Obligations.RefusedExactlyUnderRefusePolicy := by
  intro i s
  obtain ⟨e, hentry, hexec⟩ := exists_exec_eq_meaning i
  obtain ⟨hcode, -⟩ := hasRow_of_opEntry hentry
  rw [hexec, ← hcode, ← opTable_unstable e (List.mem_of_getElem? hentry)]
  refine ⟨fun ⟨r, hr⟩ => ?_, fun ⟨hpolicy, hunstable⟩ => ⟨_, meaning_refused hpolicy hunstable _ _⟩⟩
  rcases policy_cases s e.mnemonic with h | h
  · exact absurd hr ((meaning_ends h _ _).refused r)
  · exact h

/-- Settles O50: a fault is that of the write of the instruction at PC, with PC at `snap`. -/
theorem faultsArePrecise : Obligations.FaultsArePrecise := by
  intro s f h
  rcases step_cases s with ⟨e, -, hstep⟩ | ⟨i, -, hop, hstep⟩ <;> rw [hstep] at h
  · cases h
  · obtain ⟨a, -, hrom, rfl⟩ := exec_fault i (andThen_fault.1 h)
    refine ⟨a, hrom, ?_⟩
    rw [hop, setPC_pc, BitVec.add_sub_cancel]

end Sys2Proof
end

section
/-! The flags I and D are inert (R29): a write of one of them commutes with every operation. -/

namespace Sys2Proof.Machine

variable {s t u : State} {f g : Flag} {b c : Bool} {o : Operand} {op v m : Byte} {r r' : Result}

/-- A status byte is its eight flags (R25). -/
theorem eq_of_getFlag_eq {p q : Byte} (h : ∀ g, getFlag p g = getFlag q g) : p = q := by
  refine BitVec.eq_of_getLsbD_eq fun j hj => ?_
  obtain ⟨g, rfl⟩ : ∃ g : Flag, g.bit = j := by
    interval_cases j
    exacts [⟨.C, rfl⟩, ⟨.Z, rfl⟩, ⟨.I, rfl⟩, ⟨.D, rfl⟩, ⟨.B, rfl⟩, ⟨.U, rfl⟩, ⟨.V, rfl⟩, ⟨.N, rfl⟩]
  exact h g

theorem putFlag_comm (p : Byte) (h : g ≠ f) :
    putFlag (putFlag p f b) g c = putFlag (putFlag p g c) f b := by
  refine eq_of_getFlag_eq fun k => ?_
  simp only [getFlag_putFlag]
  split_ifs with hg hf
  · exact absurd (hg.symm.trans hf) h
  all_goals rfl

theorem setFlag_comm (s : State) (h : g ≠ f) :
    (s.setFlag f b).setFlag g c = (s.setFlag g c).setFlag f b :=
  congrArg s.setP (putFlag_comm s.p h)

/-- The flags no rule reads but the ones that store P (R29). -/
def Flag.Inert (f : Flag) : Prop := f = .I ∨ f = .D

theorem Flag.Inert.ne (hf : f.Inert) (hI : g ≠ .I) (hD : g ≠ .D) : g ≠ f := by
  rcases hf with rfl | rfl
  · exact hI
  · exact hD

theorem flag_setFlag_inert (hf : f.Inert) (s : State) (hI : g ≠ .I) (hD : g ≠ .D) :
    (s.setFlag f b).flag g = s.flag g := by
  rw [setFlag_flag, if_neg (hf.ne hI hD)]

theorem setFlag_setFlag_inert (hf : f.Inert) (s : State) (hI : g ≠ .I) (hD : g ≠ .D) :
    (s.setFlag f b).setFlag g c = (s.setFlag g c).setFlag f b :=
  setFlag_comm s (hf.ne hI hD)

theorem setZN_setFlag (hf : f.Inert) (s : State) (v : Byte) :
    (s.setFlag f b).setZN v = (s.setZN v).setFlag f b := by
  simp [State.setZN, setFlag_setFlag_inert hf]

theorem comparePath_setFlag (hf : f.Inert) (s : State) (r m : Byte) :
    (s.setFlag f b).comparePath r m = (s.comparePath r m).setFlag f b := by
  simp [State.comparePath, setFlag_setFlag_inert hf]

@[simp] theorem setA_setFlag (s : State) (v : Byte) : (s.setFlag f b).setA v = (s.setA v).setFlag f b := rfl
@[simp] theorem setX_setFlag (s : State) (v : Byte) : (s.setFlag f b).setX v = (s.setX v).setFlag f b := rfl
@[simp] theorem setY_setFlag (s : State) (v : Byte) : (s.setFlag f b).setY v = (s.setY v).setFlag f b := rfl
@[simp] theorem setSP_setFlag (s : State) (v : Byte) : (s.setFlag f b).setSP v = (s.setSP v).setFlag f b := rfl
@[simp] theorem setPC_setFlag (s : State) (v : Addr) : (s.setFlag f b).setPC v = (s.setPC v).setFlag f b := rfl
@[simp] theorem halt_setFlag (s : State) (r : HaltReason) :
    (s.setFlag f b).halt r = (s.halt r).setFlag f b := rfl

theorem addPath_setFlag (hf : f.Inert) (s : State) (m : Byte) :
    (s.setFlag f b).addPath m = (s.addPath m).setFlag f b := by
  simp [State.addPath, flag_setFlag_inert hf, setFlag_setFlag_inert hf, setZN_setFlag hf,
    -setFlag_flag]

@[simp] theorem poke_setFlag (s : State) (a : Addr) (v : Byte) :
    (s.setFlag f b).poke a v = (s.poke a v).setFlag f b := by
  unfold State.poke; split <;> rfl

@[simp] theorem push_setFlag (s : State) (v : Byte) : (s.setFlag f b).push v = (s.push v).setFlag f b := by
  simp [State.push]

@[simp] theorem push16_setFlag (s : State) (w : Addr) :
    (s.setFlag f b).push16 w = (s.push16 w).setFlag f b := by
  simp [State.push16]

@[simp] theorem pulled_setFlag (s : State) : (s.setFlag f b).pulled = s.pulled.setFlag f b := rfl
@[simp] theorem pulled16_setFlag (s : State) : (s.setFlag f b).pulled16 = s.pulled16.setFlag f b := rfl
@[simp] theorem pullByte_setFlag (s : State) : (s.setFlag f b).pullByte = s.pullByte := rfl
@[simp] theorem pullWord_setFlag (s : State) : (s.setFlag f b).pullWord = s.pullWord := rfl

@[simp] theorem resolve_setFlag (o : Operand) (s : State) : resolve o (s.setFlag f b) = resolve o s := by
  cases o <;> rfl

@[simp] theorem readOperand_setFlag (o : Operand) (s : State) :
    readOperand o (s.setFlag f b) = readOperand o s := by
  cases o <;> rfl

@[simp] theorem next_andThen (s : State) (h : State → State) :
    Result.andThen (.next s) h = .next (h s) := rfl

@[simp] theorem andThen_andThen (r : Result) (h k : State → State) :
    (r.andThen h).andThen k = r.andThen fun s => k (h s) := by
  cases r <;> rfl

@[simp] theorem writeByte_setFlag (s : State) (a : Addr) (v : Byte) :
    writeByte op a v (s.setFlag f b) = (writeByte op a v s).andThen (State.setFlag · f b) := by
  unfold writeByte
  split
  · rfl
  · simp

@[simp] theorem writeBack_setFlag (s : State) (o : Operand) (v : Byte) :
    writeBack op o v (s.setFlag f b) = (writeBack op o v s).andThen (State.setFlag · f b) := by
  simp only [writeBack, resolve_setFlag]
  cases resolve o s <;> simp

@[simp] theorem storeHigh_setFlag (s : State) (o : Operand) (index v : Byte) :
    storeHigh op o index v (s.setFlag f b) = (storeHigh op o index v s).andThen (State.setFlag · f b) := by
  simp only [storeHigh, resolve_setFlag]
  cases resolve o s <;> simp

@[simp] theorem jumpTo_setFlag (s : State) (o : Operand) :
    jumpTo o (s.setFlag f b) = (jumpTo o s).andThen (State.setFlag · f b) := by
  simp only [jumpTo, resolve_setFlag]
  cases resolve o s <;> simp

@[simp] theorem branchTo_setFlag (cond : Bool) (s : State) (o : Operand) :
    branchTo cond o (s.setFlag f b) = (branchTo cond o s).andThen (State.setFlag · f b) := by
  cases cond <;> simp [branchTo]

theorem underPolicy_setFlag {g : State → Result}
    (h : g (s.setFlag f b) = (g s).andThen (State.setFlag · f b)) :
    underPolicy op g (s.setFlag f b) = (underPolicy op g s).andThen (State.setFlag · f b) := by
  unfold underPolicy
  rw [setFlag_policy, h]
  cases s.policy <;> rfl

/-- The mnemonics that write I or D, or store P (R225, R226, R227, R230 to R233). -/
def statusMnemonics : List Mnemonic := [.PHP, .PLP, .RTI, .SEI, .CLI, .SED, .CLD]

/-- A write of an inert flag commutes with every meaning that neither writes it nor stores P. -/
theorem meaning_setFlag (hf : f.Inert) {m : Mnemonic} (hm : m ∉ statusMnemonics) (op : Byte) (o : Operand)
    (s : State) : meaning m op o (s.setFlag f b) = (meaning m op o s).andThen (State.setFlag · f b) := by
  have hflag := @flag_setFlag_inert f (b := b) (hf := hf)
  have hput := @setFlag_setFlag_inert f (b := b) (hf := hf)
  have hzn := setZN_setFlag (b := b) hf
  have hadd := addPath_setFlag (b := b) hf
  have hcompare := comparePath_setFlag (b := b) hf
  cases m with
  | PHP | PLP | RTI | SEI | CLI | SED | CLD => exact absurd (by decide) hm
  | STA | STX | STY | SAX => exact writeBack_setFlag _ _ _
  | BCC | BCS | BEQ | BNE | BPL | BMI | BVC | BVS => simp [meaning, hflag, -setFlag_flag]
  | JMP | JSR => simp [meaning]
  | ADC | SBC => simp [meaning, adc, sbc, hadd]
  | CMP | CPX | CPY => simp [meaning, cmp, cpx, cpy, hcompare]
  | INC | DEC => simp [meaning, inc, dec, hzn]
  | ASL | LSR | ROL | ROR =>
    simp [meaning, asl, lsr, rol, ror, shiftBack, hflag, hput, hzn, -setFlag_flag]
  | DCP | ISC => simp [meaning, dcp, isc, hadd, hcompare]
  | SLO | RLA | SRE | RRA =>
    simp [meaning, slo, rla, sre, rra, fuseShift, hflag, hput, hzn, hadd, -setFlag_flag]
  | LXA => exact underPolicy_setFlag (by simp [lxa, hzn])
  | XAA => exact underPolicy_setFlag (by simp [xaa, hzn])
  | SHA | SHX | SHY => exact underPolicy_setFlag (storeHigh_setFlag _ _ _ _)
  | TAS => exact underPolicy_setFlag (by simp [tas])
  | LDA | LDX | LDY | LAX | LAS | AND | ORA | EOR =>
    simp [meaning, lda, ldx, ldy, lax, las, andA, ora, eor, hzn]
  | ANC | ALR | ARR | AXS | BIT =>
    simp [meaning, anc, execAlrImmediate, execArrImmediate, execAxsImmediate, bit, hflag, hput, hzn,
      -setFlag_flag]
  | TAX | TAY | TSX | TXA | TXS | TYA =>
    simp [meaning, execTax, execTay, execTsx, execTxa, execTxs, execTya, hzn]
  | INX | INY | DEX | DEY => simp [meaning, execInx, execIny, execDex, execDey, hzn]
  | RTS | PHA | PLA => simp [meaning, execRts, execPha, execPla, hzn]
  | SEC | CLC | CLV => simp [meaning, execSec, execClc, execClv, hput]
  | BRK | KIL | NOP => simp [meaning, execBrk, kil, hput]

/-- Two results end alike, in states that differ in the flag `f` at most. -/
def AlikeBut (f : Flag) : Result → Result → Prop
  | .next t, .next u => AgreeBut f t u
  | .fault e, .fault e' => e = e'
  | .refused e, .refused e' => e = e'
  | _, _ => False

theorem agreeBut_setFlag (f : Flag) (b : Bool) (s : State) : AgreeBut f s (s.setFlag f b) :=
  ⟨rfl, rfl, rfl, rfl, rfl, rfl, rfl, rfl, rfl, rfl, rfl, fun _ hg => by rw [setFlag_flag, if_neg hg]⟩

theorem alikeBut_andThen_setFlag (f : Flag) (b : Bool) (r : Result) :
    AlikeBut f r (r.andThen (State.setFlag · f b)) := by
  cases r with
  | next s => exact agreeBut_setFlag f b s
  | fault | refused => rfl

/-- A flag write makes states alike that were alike before it. -/
theorem agreeBut_setFlag_setFlag (f g : Flag) (b c : Bool) (s : State) :
    AgreeBut f (s.setFlag g c) ((s.setFlag f b).setFlag g c) :=
  ⟨rfl, rfl, rfl, rfl, rfl, rfl, rfl, rfl, rfl, rfl, rfl, fun k hk => by simp [hk]⟩

theorem agreeBut_refl (f : Flag) (s : State) : AgreeBut f s s :=
  ⟨rfl, rfl, rfl, rfl, rfl, rfl, rfl, rfl, rfl, rfl, rfl, fun _ _ => rfl⟩

/-- Every meaning but PHP's ends alike: a write of the flag commutes with it, or it writes that flag itself, or
all of P. -/
theorem meaning_alikeBut (hf : f.Inert) (b : Bool) {m : Mnemonic} (hm : m ≠ .PHP) (op : Byte) (o : Operand)
    (s : State) : AlikeBut f (meaning m op o s) (meaning m op o (s.setFlag f b)) := by
  by_cases hstatus : m ∈ statusMnemonics
  case neg => rw [meaning_setFlag hf hstatus]; exact alikeBut_andThen_setFlag f b _
  cases m with
  | PHP => exact absurd rfl hm
  | PLP | RTI => exact agreeBut_refl f _
  | SEI | CLI | SED | CLD => exact agreeBut_setFlag_setFlag f _ b _ s
  | _ => exact absurd hstatus (by decide)

/-- The advance depends on the run state and PC, and writes PC alone (R104). -/
theorem AgreeBut.advance (h : AgreeBut f t u) (snap : Addr) (len : Nat) :
    AgreeBut f (t.advance snap len) (u.advance snap len) := by
  obtain ⟨ha, hx, hy, hsp, hpc, hrun, hrest⟩ := h
  unfold State.advance
  rw [hpc, hrun]
  split
  · exact ⟨ha, hx, hy, hsp, rfl, hrun, hrest⟩
  · exact ⟨ha, hx, hy, hsp, hpc, hrun, hrest⟩

theorem AlikeBut.advance (h : AlikeBut f r r') (snap : Addr) (len : Nat) :
    AlikeBut f (r.andThen (State.advance snap len)) (r'.andThen (State.advance snap len)) := by
  cases r <;> cases r'
  case next.next => exact AgreeBut.advance h snap len
  all_goals exact h

/-- PHP is the one opcode byte 0x08. -/
theorem opTable_php : ∀ e ∈ opTable, e.mnemonic = .PHP → e.code = 0x08 := by
  decide +kernel

theorem exec_alikeBut (hf : f.Inert) (b : Bool) {i : Instr} (hi : i.opcode ≠ 0x08) (s : State) :
    AlikeBut f (exec i s) (exec i (s.setFlag f b)) := by
  obtain ⟨e, hentry, hexec⟩ := exists_exec_eq_meaning i
  obtain ⟨hcode, -⟩ := hasRow_of_opEntry hentry
  have hphp : e.mnemonic ≠ .PHP := fun h =>
    hi (hcode ▸ opTable_php e (List.mem_of_getElem? hentry) h)
  rw [hexec, hexec]
  exact meaning_alikeBut hf b hphp _ _ s

theorem step_alikeBut (hf : f.Inert) (b : Bool) (hphp : s.readByte s.pc ≠ 0x08) :
    AlikeBut f (step s) (step (s.setFlag f b)) := by
  rcases step_cases s with ⟨e, hrefusal, hstep⟩ | ⟨i, hfetches, hop, hstep⟩
  · have hrefusal' : stepRefusal (s.setFlag f b) = some e := hrefusal
    rw [hstep, step_of_stepRefusal hrefusal']
    rfl
  · have hfetches' : Fetches i (s.setFlag f b) := hfetches
    rw [hstep, step_of_fetches hfetches', setPC_setFlag]
    exact (exec_alikeBut hf b (hop ▸ hphp) _).advance _ _

end Sys2Proof.Machine

namespace Sys2Proof

open Machine

/-- Settles O49: the two steps run the same instruction, which is not PHP, and advance alike. -/
theorem interruptAndDecimalFlagsAreInert : Obligations.InterruptAndDecimalFlagsAreInert := by
  intro f b s hf hphp
  have halike := step_alikeBut hf b hphp
  cases hs : step s <;> cases ht : step (s.setFlag f b) <;> rw [hs, ht] at halike <;> exact halike

end Sys2Proof
end

section
/-! Who writes SP and the flags (R24, R25 to R30): the frame of each mnemonic's meaning. -/

namespace Sys2Proof.Machine

variable {s u : State} {m : Mnemonic} {f : Flag} {op v : Byte} {o : Operand}

/-- The mnemonics that write SP (R24). -/
def spWriters : List Mnemonic := [.TXS, .TAS, .LAS, .JSR, .RTS, .RTI, .PHA, .PHP, .PLA, .PLP]

/-- The flags a mnemonic may write (R25 to R30). -/
def writtenFlags : Mnemonic → List Flag
  | .PLP | .RTI => [.C, .Z, .I, .D, .B, .U, .V, .N]
  | .ADC | .SBC | .RRA | .ISC | .ARR | .BIT | .CLV => [.C, .Z, .V, .N]
  | .SEI | .CLI => [.I]
  | .SED | .CLD => [.D]
  | .BRK => [.B]
  | _ => [.C, .Z, .N]

/-- From `s` to `u`, SP and the flags change at most as the mnemonic `m` may write them. -/
def WritesAs (m : Mnemonic) (s u : State) : Prop :=
  (m ∉ spWriters → u.sp = s.sp) ∧ ∀ f, f ∉ writtenFlags m → u.flag f = s.flag f

theorem writesAs_refl (m : Mnemonic) (s : State) : WritesAs m s s := ⟨fun _ => rfl, fun _ _ => rfl⟩

theorem writesAs_setA : WritesAs m s (u.setA v) ↔ WritesAs m s u := Iff.rfl

theorem writesAs_poke {a : Addr} : WritesAs m s (u.poke a v) ↔ WritesAs m s u := by
  simp [WritesAs]

theorem WritesAs.setSP (h : WritesAs m s u) (hm : m ∈ spWriters) (v : Byte) : WritesAs m s (u.setSP v) :=
  ⟨fun h => absurd hm h, h.2⟩

theorem WritesAs.push (h : WritesAs m s u) (hm : m ∈ spWriters) (v : Byte) : WritesAs m s (u.push v) :=
  (writesAs_poke.2 h).setSP hm _

theorem WritesAs.setFlag (h : WritesAs m s u) (hf : f ∈ writtenFlags m) (b : Bool) :
    WritesAs m s (u.setFlag f b) := by
  refine ⟨h.1, fun g hg => ?_⟩
  have hgf : g ≠ f := fun heq => hg (heq ▸ hf)
  rw [setFlag_flag, if_neg hgf, h.2 g hg]

theorem WritesAs.setZN (h : WritesAs m s u) (hz : .Z ∈ writtenFlags m) (hn : .N ∈ writtenFlags m)
    (v : Byte) : WritesAs m s (u.setZN v) :=
  (h.setFlag hz _).setFlag hn _

theorem WritesAs.comparePath (h : WritesAs m s u) (hflags : writtenFlags m = [.C, .Z, .N]) (r v : Byte) :
    WritesAs m s (u.comparePath r v) := by
  have hmem {f : Flag} (hf : f ∈ [Flag.C, .Z, .N]) : f ∈ writtenFlags m := hflags ▸ hf
  exact ((h.setFlag (hmem (by decide)) _).setFlag (hmem (by decide)) _).setFlag (hmem (by decide)) _

theorem WritesAs.addPath (h : WritesAs m s u) (hflags : writtenFlags m = [.C, .Z, .V, .N]) (v : Byte) :
    WritesAs m s (u.addPath v) := by
  have hmem {f : Flag} (hf : f ∈ [Flag.C, .Z, .V, .N]) : f ∈ writtenFlags m := hflags ▸ hf
  unfold State.addPath
  exact writesAs_setA.2
    (((h.setFlag (hmem (by decide)) _).setFlag (hmem (by decide)) _).setZN (hmem (by decide)) (hmem (by decide)) _)

/-- A meaning that goes on from a write-back, which writes neither SP nor a flag. -/
theorem writesAs_writeBack_andThen {g : State → State} (hg : ∀ u, WritesAs m s u → WritesAs m s (g u)) :
    Always (WritesAs m s) (Result.andThen (writeBack op o v s) g) :=
  always_andThen (always_writeBack (hg _ (writesAs_refl m s))
    fun _ => hg _ (writesAs_poke.2 (writesAs_refl m s)))

/-- By what each mnemonic does. -/
theorem meaning_writesAs (m : Mnemonic) (op : Byte) (o : Operand) (s : State) :
    Always (WritesAs m s) (meaning m op o s) := by
  have hself := writesAs_refl m s
  cases m with
  | STA | STX | STY | SAX => exact always_writeBack hself fun _ => writesAs_poke.2 hself
  | ASL | LSR | ROL | ROR | SLO | RLA | SRE =>
    exact writesAs_writeBack_andThen fun u hu => (hu.setFlag (by decide) _).setZN (by decide) (by decide) _
  | INC | DEC => exact writesAs_writeBack_andThen fun u hu => hu.setZN (by decide) (by decide) _
  | DCP => exact writesAs_writeBack_andThen fun u hu => hu.comparePath rfl _ _
  | ISC => exact writesAs_writeBack_andThen fun u hu => hu.addPath rfl _
  | RRA => exact writesAs_writeBack_andThen fun u hu => (hu.setFlag (by decide) _).addPath rfl _
  | BCC | BCS | BEQ | BNE | BPL | BMI | BVC | BVS => exact always_branchTo hself fun _ => hself
  | JMP => exact always_jumpTo hself fun _ => hself
  | JSR =>
    have hpush := (hself.push (by decide) (hi (s.pc + 1))).push (by decide) (lo (s.pc + 1))
    exact always_jumpTo hpush fun _ => hpush
  | SHA | SHX | SHY => exact always_underPolicy (always_storeHigh hself fun _ _ => writesAs_poke.2 hself)
  | TAS =>
    have hsp := hself.setSP (by decide) (s.a &&& s.x)
    exact always_underPolicy (always_storeHigh hsp fun _ _ => writesAs_poke.2 hsp)
  | LXA | XAA => exact always_underPolicy (always_next (hself.setZN (by decide) (by decide) _))
  | ADC | SBC => exact always_next (hself.addPath rfl _)
  | CMP | CPX | CPY => exact always_next (hself.comparePath rfl _ _)
  | PLP | RTI => exact always_next ⟨fun h => absurd (by decide) h,
      fun f hf => absurd (by cases f <;> decide) hf⟩
  | LDA | LDX | LDY | LAX | AND | ORA | EOR | TAX | TAY | TSX | TXA | TYA | INX | INY | DEX | DEY =>
    exact always_next (hself.setZN (by decide) (by decide) _)
  | TXS => exact always_next (hself.setSP (by decide) _)
  | RTS => exact always_next ((hself.setSP (by decide) _).setSP (by decide) _)
  | PHA | PHP => exact always_next (hself.push (by decide) _)
  | LAS | PLA => exact always_next ((hself.setSP (by decide) _).setZN (by decide) (by decide) _)
  | SEC | CLC | SEI | CLI | SED | CLD | CLV | BRK => exact always_next (hself.setFlag (by decide) _)
  | NOP | KIL => exact always_next hself
  | BIT =>
    exact always_next (((hself.setFlag (by decide) _).setFlag (by decide) _).setFlag (by decide) _)
  | ANC => exact always_next ((hself.setZN (by decide) (by decide) _).setFlag (by decide) _)
  | ALR | AXS => exact always_next ((hself.setFlag (by decide) _).setZN (by decide) (by decide) _)
  | ARR =>
    exact always_next
      (((hself.setZN (by decide) (by decide) _).setFlag (by decide) _).setFlag (by decide) _)

/-- The flags other than C, Z and N, each with the mnemonics that may write it. -/
theorem not_mem_writtenFlags (m : Mnemonic) :
    (m ∉ [.ADC, .SBC, .BIT, .CLV, .PLP, .RTI, .RRA, .ISC, .ARR] → .V ∉ writtenFlags m) ∧
    (m ∉ [.SEI, .CLI, .PLP, .RTI] → .I ∉ writtenFlags m) ∧
    (m ∉ [.SED, .CLD, .PLP, .RTI] → .D ∉ writtenFlags m) ∧
    (m ∉ [.BRK, .PLP, .RTI] → .B ∉ writtenFlags m) ∧
    (m ∉ [.PLP, .RTI] → .U ∉ writtenFlags m) := by
  cases m <;> decide

end Sys2Proof.Machine

namespace Sys2Proof

open Machine

/-- Settles O48: an instruction writes SP and the flags as its mnemonic does. -/
theorem onlyListedInstructionsWriteSPAndFlags : Obligations.OnlyListedInstructionsWriteSPAndFlags := by
  intro i s t e hexec hentry
  obtain ⟨e', hentry', hmeaning⟩ := exists_exec_eq_meaning i
  obtain rfl : e' = e := Option.some.inj (hentry'.symm.trans hentry)
  rw [hmeaning] at hexec
  obtain ⟨hsp, hflags⟩ := meaning_writesAs e'.mnemonic i.opcode i.operand s t hexec
  obtain ⟨hV, hI, hD, hB, hU⟩ := not_mem_writtenFlags e'.mnemonic
  exact ⟨hsp, fun h => hflags _ (hV h), fun h => hflags _ (hI h), fun h => hflags _ (hD h),
    fun h => hflags _ (hB h), fun h => hflags _ (hU h)⟩

end Sys2Proof
end

section
/-! The add path in signed numbers, and the add-subtract round trip (R123, R191 to R194). -/

namespace Sys2Proof.Machine

variable {a m : Byte} {c : Bool}

/-- The mask 0x80 tests the sign bit. -/
theorem and_signMask_ne_zero (v : Byte) : (v &&& 0x80 != 0) = v.msb := by
  have hmask : (0x80 : Byte) = BitVec.twoPow 8 7 := rfl
  rw [hmask, BitVec.and_twoPow, BitVec.msb_eq_getLsbD_last]
  cases v.getLsbD 7 <;> rfl

/-- V is set where both addends have the sign that the result has not (R123). -/
theorem addOverflow_eq_msb (a m : Byte) (c : Bool) :
    addOverflow a m c = ((m.msb ^^ (addByte a m c).msb) && (a.msb ^^ (addByte a m c).msb)) := by
  rw [addOverflow, and_signMask_ne_zero, BitVec.msb_and, BitVec.msb_xor, BitVec.msb_xor]

theorem toNat_addByte (a m : Byte) (c : Bool) :
    (addByte a m c).toNat = (a.toNat + m.toNat + c.toNat) % 256 := BitVec.toNat_ofNat _ _

/-- Adding the complement with the complement of the carry undoes an add (R194). -/
theorem addByte_addByte_not (a m : Byte) (c : Bool) : addByte (addByte a m c) (~~~m) (!c) = a := by
  have ha := a.isLt
  have hm := m.isLt
  apply BitVec.eq_of_toNat_eq
  rw [toNat_addByte, toNat_addByte, BitVec.toNat_not]
  cases c <;> simp only [Bool.not_false, Bool.not_true, Bool.toNat_false, Bool.toNat_true] <;> omega

/-- V says that the signed sum leaves -128..127 (R191). -/
theorem addOverflow_eq_decide (a m : Byte) (c : Bool) : addOverflow a m c =
    decide (¬(-128 ≤ a.toInt + m.toInt + c.toNat ∧ a.toInt + m.toInt + c.toNat ≤ 127)) := by
  have ha := a.isLt
  have hm := m.isLt
  have hc := c.toNat_le
  have hr := toNat_addByte a m c
  rw [addOverflow_eq_msb, Bool.eq_iff_iff]
  simp only [BitVec.msb_eq_decide, BitVec.toInt_eq_toNat_cond, Bool.and_eq_true, Bool.xor_iff_ne,
    decide_eq_true_eq, ne_eq, decide_eq_decide]
  split_ifs <;> omega

/-- The complement of a byte as a signed number (R192). -/
theorem toInt_not (m : Byte) : (~~~m).toInt = -1 - m.toInt := by
  have hm := m.isLt
  rw [BitVec.toInt_eq_toNat_cond, BitVec.toInt_eq_toNat_cond, BitVec.toNat_not]
  split_ifs <;> omega

end Sys2Proof.Machine

namespace Sys2Proof

open Machine

/-- Settles O6: V of the complement is V of the sum with `-1 - m`. -/
theorem overflowIsSignedOverflow : Obligations.OverflowIsSignedOverflow := by
  intro a m c
  refine ⟨addOverflow_eq_decide a m c, ?_⟩
  rw [addOverflow_eq_decide, toInt_not, decide_eq_decide]
  omega

/-- Settles O7: both instructions complete with the add path, and the two carries cancel. -/
theorem adcThenSbcRestoresA : Obligations.AdcThenSbcRestoresA := by
  intro b s t h
  obtain rfl : s.addPath b = t := Host.Outcome.next.inj h
  refine ⟨((s.addPath b).setFlag .C (!s.flag .C)).addPath (~~~b), rfl, ?_⟩
  rw [addPath_a, setFlag_a, addPath_a, setFlag_flag, if_pos rfl]
  exact addByte_addByte_not s.a b (s.flag .C)

end Sys2Proof
end

section
/-! The bus by region, bytes and words (R52 to R61), and the two pointer modes of the resolver (R115, R116). -/

namespace Sys2Proof.Machine

variable {s t : State} {a : Addr} {v op : Byte} {w : Addr}

theorem inRom_eq_false (h : a.toNat < 0x8000) : inRom a = false := by simpa [inRom] using h

theorem inRam_eq_false (h : 0x2000 ≤ a.toNat) : inRam a = false := by simpa [inRam] using h

/-- Outside the RAM window a byte write that does not fault changes nothing (R57, R61). -/
theorem poke_of_not_inRam (h : 0x2000 ≤ a.toNat) (v : Byte) (s : State) : s.poke a v = s := by
  rw [State.poke, inRam_eq_false h]; rfl

theorem writeByte_of_lt (h : a.toNat < 0x8000) : writeByte op a v s = .next (s.poke a v) :=
  writeByte_next (inRom_eq_false h)

theorem writeByte_of_unmapped (h : 0x2000 ≤ a.toNat) (h' : a.toNat < 0x8000) :
    writeByte op a v s = .next s := by
  rw [writeByte_of_lt h', poke_of_not_inRam h]

theorem readByte_of_unmapped (h : 0x2000 ≤ a.toNat) (h' : a.toNat < 0x8000) : s.readByte a = 0x00 := by
  rw [State.readByte, backing_none _ (inRam_eq_false h) (inRom_eq_false h')]

theorem readByte_of_rom (h : 0x8000 ≤ a.toNat) :
    s.readByte a = Memory.read s.mem (0x8000 + romOffset s.prgSize a) := by
  rw [State.readByte, backing_rom _ (inRom_iff.2 h)]

/-- A 16 KB image is mirrored by the modulus (R59, C1). -/
theorem romOffset_bank16K (a : Addr) : romOffset .bank16K a = (a.toNat - 0x8000) % 0x4000 := rfl

theorem romOffset_bank32K (a : Addr) : romOffset .bank32K a = a.toNat - 0x8000 := rfl

theorem readByte_of_bank16K (hsize : s.prgSize = .bank16K) (h : 0x8000 ≤ a.toNat) :
    s.readByte a = Memory.read s.mem (0x8000 + (a.toNat - 0x8000) % 0x4000) := by
  rw [readByte_of_rom h, hsize, romOffset_bank16K]

theorem readByte_of_bank32K (hsize : s.prgSize = .bank32K) (h : 0x8000 ≤ a.toNat) :
    s.readByte a = Memory.read s.mem a.toNat := by
  rw [readByte_of_rom h, hsize, romOffset_bank32K, Nat.add_sub_cancel' h]

/-- The address after `a`, with the wrap of D2, in numbers. -/
theorem ofNat_toNat_succ_mod (a : Addr) : BitVec.ofNat 16 ((a.toNat + 1) % 65536) = a + 1 := by
  apply BitVec.eq_of_toNat_eq
  rw [BitVec.toNat_ofNat, Nat.mod_mod, BitVec.toNat_add]
  rfl

theorem ofNat_mod_eq_lo (w : Addr) : BitVec.ofNat 8 (w.toNat % 256) = lo w := by
  rw [← toNat_lo, BitVec.ofNat_toNat, BitVec.setWidth_eq]

theorem ofNat_div_eq_hi (w : Addr) : BitVec.ofNat 8 (w.toNat / 256) = hi w := by
  rw [← toNat_hi, BitVec.ofNat_toNat, BitVec.setWidth_eq]

theorem toNat_readWord (a : Addr) (s : State) :
    (s.readWord a).toNat = (s.readByte a).toNat + 256 * (s.readByte (a + 1)).toNat :=
  toNat_word _ _

/-- A word write whose low byte is written goes on with the high byte (R55). -/
theorem writeWord_of_next (h : writeByte op a (lo w) s = .next t) :
    writeWord op a w s = writeByte op (a + 1) (hi w) t := by
  rw [writeWord, h]; rfl

theorem writeWord_of_fault {f : Fault} (h : writeByte op a (lo w) s = .fault f) :
    writeWord op a w s = .fault f := by
  rw [writeWord, h]; rfl

theorem toNat_succ (h : a.toNat < 0xFFFF) : (a + 1).toNat = a.toNat + 1 := by bv_omega

/-- A word written within the RAM window is read back (R53, R55). -/
theorem readWord_poke_poke (hwf : Memory.wf s.mem = true) (h : a.toNat < 0x1FFF) :
    ((s.poke a (lo w)).poke (a + 1) (hi w)).readWord a = w := by
  have hsucc := toNat_succ (a := a) (by omega)
  have hram : inRam a = true := inRam_iff.2 (by omega)
  have hram' : inRam (a + 1) = true := inRam_iff.2 (by omega)
  have hkey : ramKey a ≠ ramKey (a + 1) := by rw [ramKey_eq, ramKey_eq]; omega
  have hlow : ((s.poke a (lo w)).poke (a + 1) (hi w)).readByte a = lo w := by
    rw [readByte_poke (wf_poke hwf), if_neg fun ⟨_, _, hkey'⟩ => hkey hkey', readByte_poke hwf,
      if_pos ⟨hram, hram, rfl⟩]
  rw [State.readWord, hlow, readByte_poke (wf_poke hwf), if_pos ⟨hram', hram', rfl⟩, word_hi_lo]

end Sys2Proof.Machine

namespace Sys2Proof

open Machine

/-- Settles O33, by the three regions of the bus. -/
theorem byteWritesByRegion : Obligations.ByteWritesByRegion := by
  intro op a v s hwf
  refine ⟨fun hram => ?_, writeByte_of_unmapped, fun hrom => writeByte_rom (inRom_iff.2 hrom)⟩
  exact ⟨s.poke a v, writeByte_of_lt (by omega), storedAt_poke hwf a v, unchanged_poke s a v⟩

/-- Settles O34: a read outside RAM and ROM is 0x00, and a read of ROM is one of the image. -/
theorem byteReadsByRegion : Obligations.ByteReadsByRegion := by
  intro s a
  refine ⟨readByte_of_unmapped, fun hsize h => ?_, readByte_of_bank16K, readByte_of_bank32K⟩
  have hlow : (a - 0x4000).toNat = a.toNat - 0x4000 := by bv_omega
  have hoffset : (a.toNat - 0x8000) % 0x4000 = (a.toNat - 0x4000 - 0x8000) % 0x4000 := by omega
  simp only [readByte_of_bank16K hsize (by omega : 0x8000 ≤ a.toNat),
    readByte_of_bank16K hsize (by omega : 0x8000 ≤ (a - 0x4000).toNat), hlow, hoffset]

/-- Settles O35: the low byte, then the high byte, each by its region. -/
theorem wordAccessesAreTwoBytes : Obligations.WordAccessesAreTwoBytes := by
  intro op a w s hwf
  rw [ofNat_toNat_succ_mod, ofNat_mod_eq_lo, ofNat_div_eq_hi]
  refine ⟨toNat_readWord a s, fun t => writeWord_of_next, fun f => writeWord_of_fault, fun h => ?ram,
    fun h => ?ramEnd, fun h h' => ?unmapped, fun h => ?romStart, fun h => ?rom⟩
  case ram =>
    have hsucc := toNat_succ (a := a) (by omega)
    refine ⟨s.poke a (lo w), (s.poke a (lo w)).poke (a + 1) (hi w), ?_, storedAt_poke hwf _ _,
      storedAt_poke (wf_poke hwf) _ _, readWord_poke_poke hwf h, by simp [Unchanged]⟩
    rw [writeWord_of_next (writeByte_of_lt (by omega)), writeByte_of_lt (by omega)]
  case ramEnd =>
    have hsucc := toNat_succ (a := a) (by omega)
    refine ⟨s.poke a (lo w), ?_, storedAt_poke hwf _ _, unchanged_poke s a _⟩
    rw [writeWord_of_next (writeByte_of_lt (by omega)), writeByte_of_unmapped (by omega) (by omega)]
  case unmapped =>
    have hsucc := toNat_succ (a := a) (by omega)
    rw [writeWord_of_next (writeByte_of_unmapped h (by omega)), writeByte_of_unmapped (by omega) (by omega)]
  case romStart =>
    obtain rfl : a = 0x7FFF := BitVec.eq_of_toNat_eq h
    exact writeWord_of_next (writeByte_of_unmapped (by decide) (by decide))
  case rom => exact writeWord_of_fault (writeByte_rom (inRom_iff.2 h))

/-- The pointer at a zero-page location in numbers; its high byte wraps within page 0 (D7). -/
theorem toNat_zeroPagePointer (s : State) (b : Byte) : (s.zeroPagePointer b).toNat =
    (s.readByte (BitVec.ofNat 16 b.toNat)).toNat +
      256 * (s.readByte (BitVec.ofNat 16 ((b.toNat + 1) % 256))).toNat := by
  rw [State.zeroPagePointer, toNat_word, zext16_eq_ofNat, zext16_eq_ofNat, toNat_add_one]

/-- Settles O37: both modes read the pointer of a zero-page location. -/
theorem resolverPointerModesStayInPageZero : Obligations.ResolverPointerModesStayInPageZero := by
  intro s p
  refine ⟨fun hp => ?indirectX, fun hp => ?indirectY⟩
  case indirectX =>
    rw [hp, ← BitVec.toNat_add, ← toNat_zeroPagePointer, BitVec.ofNat_toNat, BitVec.setWidth_eq]
    rfl
  case indirectY =>
    rw [hp, ← toNat_zeroPagePointer, ← add_zext16_eq_ofNat]
    rfl

end Sys2Proof
end

section
/-! The stack (R125 to R128, R221 to R227, D8), in the words of the statements, and the NOPs (R235, R281,
R282). -/

namespace Sys2Proof.Machine

variable {s t : State} {v : Byte} {w : Addr} {i : Instr}

/-- `stackAddr` as the statements write it. -/
theorem stackAddr_eq (sp : Byte) : stackAddr sp = 0x0100 + sp.setWidth 16 := rfl

/-- A push stores its byte at the stack address, through every mirror of it (R125). -/
theorem storedAt_push (hwf : Memory.wf s.mem = true) (v : Byte) :
    StoredAt (stackAddr s.sp) v s (s.push v) :=
  storedAt_poke hwf _ _

theorem unchanged_push (s : State) (v : Byte) : Unchanged [.SP] [] s (s.push v) := by
  simp [Unchanged, State.push]

@[simp] theorem push_flag (s : State) (v : Byte) (f : Flag) : (s.push v).flag f = s.flag f :=
  congrArg (getFlag · f) (push_p s v)

/-- An instruction that pushes `v` stores it in the stack page and lowers SP, and changes nothing else. -/
theorem exists_next_of_push (hwf : Memory.wf s.mem = true) (hexec : exec i s = .next (s.push v)) :
    ∃ t, exec i s = .next t ∧ StoredAt (0x0100 + s.sp.setWidth 16) v s t ∧ t.sp = s.sp - 1 ∧
      Unchanged [.SP] [] s t :=
  ⟨s.push v, hexec, storedAt_push hwf v, push_sp s v, unchanged_push s v⟩

@[simp] theorem push16_sp (s : State) (w : Addr) : (s.push16 w).sp = s.sp - 2 :=
  BitVec.sub_sub s.sp 1 1

theorem toNat_sub_one_ne (b : Byte) : (b - 1).toNat ≠ b.toNat := by bv_omega

/-- Reading after `Push16`: the low byte below the high byte, and no other RAM byte (R127). -/
theorem readByte_push16 (hwf : Memory.wf s.mem = true) (w a : Addr) :
    (s.push16 w).readByte a =
      if inRam a = true ∧ ramKey a = 0x100 + (s.sp - 1).toNat then lo w
      else if inRam a = true ∧ ramKey a = 0x100 + s.sp.toNat then hi w else s.readByte a := by
  rw [State.push16, readByte_push (wf_push hwf _), readByte_push hwf, push_sp]

theorem readByte_push16_low (hwf : Memory.wf s.mem = true) (w : Addr) :
    (s.push16 w).readByte (stackAddr (s.sp - 1)) = lo w := by
  rw [readByte_push16 hwf, if_pos ⟨stackAddr_inRam _, ramKey_stackAddr _⟩]

theorem readByte_push16_high (hwf : Memory.wf s.mem = true) (w : Addr) :
    (s.push16 w).readByte (stackAddr s.sp) = hi w := by
  have hne : ramKey (stackAddr s.sp) ≠ 0x100 + (s.sp - 1).toNat := by
    have := toNat_sub_one_ne s.sp
    rw [ramKey_stackAddr]
    omega
  rw [readByte_push16 hwf, if_neg fun ⟨_, h⟩ => hne h, if_pos ⟨stackAddr_inRam _, ramKey_stackAddr _⟩]

/-- The word `Pull16` returns, in numbers (R128). -/
theorem toNat_pullWord (s : State) : s.pullWord.toNat = (s.readByte (stackAddr (s.sp + 1))).toNat +
    256 * (s.readByte (stackAddr (s.sp + 2))).toNat := by
  have htop : s.sp + 1 + 1 = s.sp + 2 := BitVec.add_assoc s.sp 1 1
  rw [State.pullWord, toNat_word, State.pullByte, State.pullByte, pulled_sp, htop]
  rfl

/-- `Pull16` after `Push16` (R128). -/
theorem pullWord_push16 (hwf : Memory.wf s.mem = true) (w : Addr) : (s.push16 w).pullWord = w := by
  have hlow : s.sp - 2 + 1 = s.sp - 1 := by bv_omega
  have hhigh : s.sp - 2 + 2 = s.sp := by bv_omega
  apply BitVec.eq_of_toNat_eq
  rw [toNat_pullWord, push16_sp, hlow, hhigh, readByte_push16_low hwf, readByte_push16_high hwf,
    ← toNat_word, word_hi_lo]

theorem pulled16_sp (s : State) : s.pulled16.sp = s.sp + 2 := BitVec.add_assoc s.sp 1 1

@[simp] theorem pulled_flag (s : State) (f : Flag) : s.pulled.flag f = s.flag f := rfl

@[simp] theorem pullWord_setPC (s : State) (v : Addr) : (s.setPC v).pullWord = s.pullWord := rfl

/-- PLP's forced bits are two flag writes: B clear and U set (R226). -/
theorem forceBits_eq_putFlag (v : Byte) : v &&& 0xEF ||| 0x20 = putFlag (putFlag v .B false) .U true := rfl

theorem exec_jsrAbsolute (w : Addr) (s : State) :
    exec (.jsrAbsolute w) s = .next ((s.push16 (s.pc + 1)).setPC w) := rfl

theorem exec_rti (s : State) :
    exec .rti s = .next ((s.pulled.pulled16.setP s.pullByte).setPC s.pulled.pullWord) := rfl

theorem exec_rts (s : State) : exec .rts s = .next (s.pulled16.setPC (s.pullWord + 1)) := rfl

end Sys2Proof.Machine

namespace Sys2Proof

open Machine

/-- Settles O17: a write of PC after `Push16`. -/
theorem jsrPushesReturnAddress : Obligations.JsrPushesReturnAddress := by
  intro w s hwf
  refine ⟨_, exec_jsrAbsolute w s, setPC_pc _ _, push16_sp s _, ?high, ?low, fun a ha => ?others, ?frame⟩
  case high => exact (readByte_push16_high hwf _).trans (ofNat_div_eq_hi _).symm
  case low => exact (readByte_push16_low hwf _).trans (ofNat_mod_eq_lo _).symm
  case others =>
    rw [← ramKey_eq, ← inRam_iff] at ha
    have hother := readByte_push16 hwf (s.pc + 1) a
    rwa [if_neg fun ⟨hram, h⟩ => (ha hram).2 h, if_neg fun ⟨hram, h⟩ => (ha hram).1 h] at hother
  case frame => simp [Unchanged, State.push16]

/-- Settles O18: `Pull16`, then a write of PC. -/
theorem rtsReturnsPastPulledWord : Obligations.RtsReturnsPastPulledWord := by
  intro s
  refine ⟨_, exec_rts s, fun _ => rfl, ?_, pulled16_sp s, ?_⟩
  · rw [← stackAddr_eq, ← stackAddr_eq, ← toNat_pullWord]
    exact BitVec.toNat_add _ _
  · simp [Unchanged, State.pulled16]

/-- Settles O19: `Pull16` undoes `Push16`, wherever PC is. -/
theorem stackRoundTrips : Obligations.StackRoundTrips := by
  refine ⟨fun w s hwf => ⟨pullWord_push16 hwf w, ?_⟩, fun w pc' s t hwf hjsr => ?_⟩
  · rw [pulled16_sp, push16_sp, BitVec.sub_add_cancel]
  · obtain rfl := Host.Outcome.next.inj hjsr
    refine ⟨_, exec_rts _, ?_, ?_⟩
    · rw [setPC_pc, pullWord_setPC, pullWord_setPC, pullWord_push16 hwf, BitVec.add_assoc]
      rfl
    · rw [setPC_sp, pulled16_sp, setPC_sp, setPC_sp, push16_sp, BitVec.sub_add_cancel]

/-- Settles O20: each is a push of its byte. -/
theorem pushesWriteStackPage : Obligations.PushesWriteStackPage := by
  intro s hwf c hc
  fin_cases hc
  · exact exists_next_of_push hwf rfl
  · exact exists_next_of_push hwf rfl

/-- Settles O21: PLA sets Z and N after its pull, PLP writes P with the forced bits. -/
theorem pullsReadStackPage : Obligations.PullsReadStackPage := by
  intro s
  refine ⟨⟨_, rfl, fun _ => rfl, rfl, zNOf_setZN _ _, rfl, ?pla⟩,
    ⟨s.pulled.setP (s.pullByte &&& 0xEF ||| 0x20), rfl, fun _ => rfl, rfl, ?B, ?U, fun f hB hU => ?others, ?plp⟩⟩
  case pla =>
    have hframe : Unchanged [.A, .SP] [] s (s.pulled.setA s.pullByte) := by simp [Unchanged]
    exact hframe.setZN _
  case B | U =>
    rw [forceBits_eq_putFlag, flag_eq, setP_p, getFlag_putFlag]
    simp
  case others =>
    rw [forceBits_eq_putFlag, flag_eq, setP_p, getFlag_putFlag, if_neg hU, getFlag_putFlag, if_neg hB]
    rfl
  case plp =>
    refine ⟨by simp, by simp, by simp, by simp, by simp, fun f hf => ?_, by simp⟩
    exact absurd (by cases f <;> decide) hf

/-- Settles O22: the status byte, then `Pull16` (R227). -/
theorem rtiRestoresStatusAndPC : Obligations.RtiRestoresStatusAndPC := by
  intro s
  have hsp : s.sp + 1 + 2 = s.sp + 3 := BitVec.add_assoc s.sp 1 2
  have hsp' : s.sp + 1 + 1 = s.sp + 2 := BitVec.add_assoc s.sp 1 1
  refine ⟨_, exec_rti s, readByte_congr rfl rfl, ?p, ?pc, ?sp, ?frame⟩
  case p => exact (setPC_p _ _).trans (setP_p _ _)
  case pc =>
    have hpc := toNat_pullWord s.pulled
    rw [pulled_sp, hsp, hsp'] at hpc
    exact hpc
  case sp =>
    have hpulled := pulled16_sp s.pulled
    rw [pulled_sp, hsp] at hpulled
    exact hpulled
  case frame =>
    refine ⟨by simp [State.pulled16], by simp [State.pulled16], by simp [State.pulled16], by simp, by simp,
      fun f hf => ?_, by simp [State.pulled16]⟩
    exact absurd (by cases f <;> decide) hf

/-- Every form of NOP leaves the state alone (R235, R281, R282). -/
theorem exec_of_mem_formsNOP {i : Instr} {b : Byte} {w : Addr} (h : i ∈ formsNOP b w) (s : State) :
    exec i s = .next s := by
  fin_cases h <;> rfl

/-- Settles O24: PC stays at `snap`, and the advance skips the operand bytes. -/
theorem nopsOnlyAdvance : Obligations.NopsOnlyAdvance := by
  intro b w s i hi
  refine ⟨exec_of_mem_formsNOP hi s, fun hfetch => ?_⟩
  rw [step_of_exec_setPC hfetch (exec_of_mem_formsNOP hi _) hfetch.running, if_pos rfl]

end Sys2Proof
end

section
/-! The undocumented opcodes (R261 to R280, D12 to D15, D26): the meaning of each form, frames of the compare and
add paths after a write-back, and the statements. -/

namespace Sys2Proof.Machine

variable {s t u : State} {i : Instr} {v m index : Byte} {b op : Byte} {w ea : Addr} {regs : List Reg}
  {flags flags' : List Flag} {out : Byte × Bool} {o : Operand}

theorem exec_of_mem_formsLAX (h : i ∈ formsLAX b w) (s : State) : exec i s = lax i.operand s := by
  fin_cases h <;> rfl

theorem exec_of_mem_formsLAS (h : i ∈ formsLAS b w) (s : State) : exec i s = las i.operand s := by
  fin_cases h
  rfl

theorem exec_of_mem_formsSAX (h : i ∈ formsSAX b w) (s : State) :
    exec i s = sax i.opcode i.operand s := by
  fin_cases h <;> rfl

theorem exec_of_mem_formsDCP (h : i ∈ formsDCP b w) (s : State) :
    exec i s = dcp i.opcode i.operand s := by
  fin_cases h <;> rfl

theorem exec_of_mem_formsISC (h : i ∈ formsISC b w) (s : State) :
    exec i s = isc i.opcode i.operand s := by
  fin_cases h <;> rfl

theorem exec_of_mem_formsSLO (h : i ∈ formsSLO b w) (s : State) :
    exec i s = slo i.opcode i.operand s := by
  fin_cases h <;> rfl

theorem exec_of_mem_formsRLA (h : i ∈ formsRLA b w) (s : State) :
    exec i s = rla i.opcode i.operand s := by
  fin_cases h <;> rfl

theorem exec_of_mem_formsSRE (h : i ∈ formsSRE b w) (s : State) :
    exec i s = sre i.opcode i.operand s := by
  fin_cases h <;> rfl

theorem exec_of_mem_formsRRA (h : i ∈ formsRRA b w) (s : State) :
    exec i s = rra i.opcode i.operand s := by
  fin_cases h <;> rfl

/-- A frame that names at least the flags changed before goes on. -/
theorem Unchanged.trans (h₁ : Unchanged [] flags s u) (h₂ : Unchanged regs flags' u t)
    (hsub : flags ⊆ flags') : Unchanged regs flags' s t := by
  obtain ⟨ha, hx, hy, hsp, hpc, hflags, hrun, hsize, hpolicy, hreset, hdraws⟩ := h₁
  obtain ⟨ha', hx', hy', hsp', hpc', hflags', hrun', hsize', hpolicy', hreset', hdraws'⟩ := h₂
  have hnil {r : Reg} : r ∉ ([] : List Reg) := List.not_mem_nil
  exact ⟨fun h => (ha' h).trans (ha hnil), fun h => (hx' h).trans (hx hnil),
    fun h => (hy' h).trans (hy hnil), fun h => (hsp' h).trans (hsp hnil),
    fun h => (hpc' h).trans (hpc hnil), fun f hf => (hflags' f hf).trans (hflags f fun h => hf (hsub h)),
    hrun'.trans hrun, hsize'.trans hsize, hpolicy'.trans hpolicy, hreset'.trans hreset,
    hdraws'.trans hdraws⟩

theorem Unchanged.a_eq (h : Unchanged [] flags s u) : u.a = s.a := h.1 List.not_mem_nil

theorem Unchanged.flag_eq (h : Unchanged regs flags s u) {f : Flag} (hf : f ∉ flags) :
    u.flag f = s.flag f := by
  obtain ⟨-, -, -, -, -, hflags, -⟩ := h
  exact hflags f hf

/-- The add path from a state with the accumulator of `s` has the effect it has from `s`. -/
theorem addEffect_of_a_eq (ha : u.a = s.a) (m : Byte) : AddEffect m (u.flag .C) s (u.addPath m) := by
  have heffect := addEffect_addPath u m
  rwa [AddEffect, ha] at heffect

/-- A fused shift whose second half combines the shifted byte into A and sets Z and N (R265 to R267). -/
theorem writesOperand_of_fuseShift (hwf : Memory.wf s.mem = true) (g : Byte → Byte → Byte)
    (hexec : exec i s = fuseShift i.opcode i.operand out
      (fun t => (t.setA (g t.a out.1)).setZN (g t.a out.1)) s) :
    WritesOperand i s out.1 fun t => t.a = g s.a out.1 ∧ t.flag .C = out.2 ∧ ZNOf t.a t ∧
      Unchanged [.A] [.C, .Z, .N] s t := by
  refine writesOperand_of_writeBack_andThen hwf hexec (fun _ _ => rfl) fun u hu => ?_
  have hframe : Unchanged [.A] [.Z, .N] (u.setFlag .C out.2)
      (((u.setFlag .C out.2).setA (g u.a out.1)).setZN (g u.a out.1)) :=
    (unchanged_setA _ _).setZN _
  exact ⟨congrArg (g · out.1) hu.a_eq, by simp, zNOf_setZN _ _,
    (hu.setFlag .C _).trans (hframe.mono (by decide)) (by decide)⟩

/-- A fused rotate whose second half is the add path (R268). -/
theorem writesOperand_of_fuseShift_addPath (hwf : Memory.wf s.mem = true)
    (hexec : exec i s = fuseShift i.opcode i.operand out (fun t => t.addPath out.1) s) :
    WritesOperand i s out.1 fun t => AddEffect out.1 out.2 s t ∧ Unchanged [.A] [.C, .Z, .V, .N] s t := by
  refine writesOperand_of_writeBack_andThen hwf hexec
    (fun _ => readByte_congr (by simp) (by simp)) fun u hu => ?_
  have heffect := addEffect_of_a_eq (u := u.setFlag .C out.2) hu.a_eq out.1
  rw [setFlag_flag, if_pos rfl] at heffect
  exact ⟨heffect, (hu.setFlag .C _).trans (unchanged_addPath _ _) (by decide)⟩

/-- The high byte of a base is that of the indexed address with the index taken off (D14). -/
theorem baseHigh_add_one (base : Addr) (index : Byte) :
    baseHigh (base + zext16 index) index + 1 = BitVec.ofNat 8 (base.toNat / 256 + 1) := by
  rw [baseHigh, BitVec.add_sub_cancel, ← toNat_hi, ofNat_toNat_add_one]

/-- An unstable store at an indexed address is a byte write of the masked value (D14). -/
theorem storeHigh_of_resolve {base : Addr} (h : resolve o s = some (base + zext16 index)) :
    storeHigh op o index v s =
      writeByte op (base + zext16 index) (v &&& BitVec.ofNat 8 (base.toNat / 256 + 1)) s := by
  simp only [storeHigh, h, baseHigh_add_one]

/-- An instruction that is a byte write at its operand's address, from a state with the memory and PC of `s`. -/
theorem writesOperand_of_writeByte {P : State → Prop} (hwf : Memory.wf s.mem = true)
    (hea : resolve i.operand s = some ea) (hexec : exec i s = writeByte i.opcode ea v u)
    (hmem : u.mem = s.mem) (hsize : u.prgSize = s.prgSize) (hpc : u.pc = s.pc) (hP : P (u.poke ea v)) :
    WritesOperand i s v P := by
  intro ea' hea'
  obtain rfl : ea = ea' := Option.some.inj (hea.symm.trans hea')
  rw [hexec, ← hpc]
  refine ⟨fun hlt => ⟨u.poke ea v, writeByte_of_lt hlt, fun a => ?_, hP⟩,
    fun hge => writeByte_rom (inRom_iff.2 hge)⟩
  rw [storedAt_poke (hmem ▸ hwf) ea v a, readByte_congr hmem hsize]

/-- A bit of a byte in numbers. -/
theorem getLsbD_eq_decide_div (v : Byte) (j : Nat) : v.getLsbD j = decide (v.toNat / 2 ^ j % 2 = 1) :=
  Nat.testBit_eq_decide_div_mod_eq

/-- ARR's V in numbers (D26). -/
theorem bit6_xor_bit5 (v : Byte) :
    (v.getLsbD 6 ^^ v.getLsbD 5) = decide (v.toNat / 64 % 2 ≠ v.toNat / 32 % 2) := by
  rw [getLsbD_eq_decide_div, getLsbD_eq_decide_div, Bool.eq_iff_iff, Bool.xor_iff_ne, ne_eq, decide_eq_decide,
    decide_eq_true_eq]
  omega

/-- A byte difference in numbers. -/
theorem toNat_sub_eq (v m : Byte) : (v - m).toNat = (v.toNat + 256 - m.toNat) % 256 := by
  bv_omega

end Sys2Proof.Machine

namespace Sys2Proof

open Machine

/-- Settles O26: LAX and LAS set their registers, then Z and N; SAX is a write-back. -/
theorem fusedLoadsAndStores : Obligations.FusedLoadsAndStores := by
  intro b w s hwf
  refine ⟨fun i hi => ?lax, fun i hi => ?sax, fun i hi => ?las⟩
  case lax =>
    have hframe : Unchanged [.A, .X] [] s
        ((s.setA (readOperand i.operand s)).setX (readOperand i.operand s)) := by simp [Unchanged]
    exact ⟨_, exec_of_mem_formsLAX hi s, fun _ => rfl, rfl, rfl, zNOf_setZN _ _, hframe.setZN _⟩
  case sax => exact writesOperand_of_writeBack hwf (exec_of_mem_formsSAX hi s)
  case las =>
    have hframe (v : Byte) : Unchanged [.A, .X, .SP] [] s (((s.setA v).setX v).setSP v) := by
      simp [Unchanged]
    exact ⟨_, exec_of_mem_formsLAS hi s, fun _ => rfl, rfl, rfl, rfl, zNOf_setZN _ _, (hframe _).setZN _⟩

/-- Settles O27: a write-back, then the compare path or the add path. -/
theorem fusedIncrementsCompareOrSubtract : Obligations.FusedIncrementsCompareOrSubtract := by
  intro b w s hwf
  refine ⟨fun i hi => ?dcp, fun i hi => ?isc⟩
  case dcp =>
    exact writesOperand_of_writeBack_andThen hwf (exec_of_mem_formsDCP hi s) (fun _ _ => rfl) fun u hu =>
      ⟨compareEffect_comparePath u _ _, hu.trans (unchanged_comparePath u _ _) (by decide)⟩
  case isc =>
    refine writesOperand_of_writeBack_andThen hwf (exec_of_mem_formsISC hi s)
      (fun _ => readByte_congr (by simp) (by simp)) fun u hu => ?_
    rw [← hu.flag_eq (by decide : Flag.C ∉ [])]
    exact ⟨addEffect_of_a_eq hu.a_eq _, hu.trans (unchanged_addPath u _) (by decide)⟩

/-- Settles O28: the statement's numbers are the model's bit functions, and each form is a fused shift. -/
theorem fusedShiftsCombineWithA : Obligations.FusedShiftsCombineWithA := by
  intro b w s hwf
  simp only [asl1_eq_shiftLeft, lsr1_eq_shiftRight, rol1_eq_rotateLeft, ror1_eq_rotateRight]
  refine ⟨fun i hi => ?slo, fun i hi => ?rla, fun i hi => ?sre, fun i hi => ?rra⟩
  case slo => exact writesOperand_of_fuseShift hwf (· ||| ·) (exec_of_mem_formsSLO hi s)
  case rla => exact writesOperand_of_fuseShift hwf (· &&& ·) (exec_of_mem_formsRLA hi s)
  case sre => exact writesOperand_of_fuseShift hwf (· ^^^ ·) (exec_of_mem_formsSRE hi s)
  case rra => exact writesOperand_of_fuseShift_addPath hwf (exec_of_mem_formsRRA hi s)

/-- Settles O29: each sets its register and its flags in turn. -/
theorem immediateFusionsComputeTheirResults : Obligations.ImmediateFusionsComputeTheirResults := by
  intro m s
  simp only [lsr1_eq_shiftRight, ror1_eq_rotateRight]
  refine ⟨fun i hi => ?anc, ?alr, ?arr, ?axs, ?sbc⟩
  case anc =>
    have hexec : exec i s = anc m s := by fin_cases hi <;> rfl
    refine ⟨_, hexec, fun _ => rfl, rfl, zNOf_of_flags (by simp) (by simp), by simp, ?_⟩
    exact (((unchanged_setA s _).setZN _).setFlag .C _).mono (by decide)
  case alr =>
    refine ⟨_, rfl, fun _ => rfl, rfl, by simp, zNOf_setZN _ _, ?_⟩
    exact (((unchanged_setA s _).setFlag .C _).setZN _).mono (by decide)
  case arr =>
    refine ⟨_, rfl, fun _ => rfl, rfl, ?carry, ?overflow, zNOf_of_flags (by simp) (by simp), ?_⟩
    case carry => simpa using getLsbD_eq_decide_div _ 6
    case overflow => simpa using bit6_xor_bit5 _
    exact ((((unchanged_setA s _).setZN _).setFlag .C _).setFlag .V _).mono (by decide)
  case axs =>
    refine ⟨_, rfl, fun _ => rfl, toNat_sub_eq _ m, by simp, zNOf_setZN _ _, ?_⟩
    exact (((unchanged_setX s _).setFlag .C _).setZN _).mono (by decide)
  case sbc =>
    exact ⟨_, rfl, readByte_congr (by simp) (by simp), addEffect_addPath s _, unchanged_addPath s _⟩

/-- Settles O30: under `fusion` each unstable opcode runs its meaning; the stores are byte writes. -/
theorem unstableOpcodesUnderFusion : Obligations.UnstableOpcodesUnderFusion := by
  intro b w s hpolicy hwf
  refine ⟨?lxa, ?xaa, ?shaAbsoluteY, ?shaIndirectY, ?shx, ?shy, ?tas⟩
  case lxa =>
    have hframe : Unchanged [.A, .X] [] s ((s.setA b).setX b) := by simp [Unchanged]
    exact ⟨_, underPolicy_of_fusion hpolicy _ _, fun _ => rfl, rfl, rfl, zNOf_setZN _ _, hframe.setZN _⟩
  case xaa =>
    exact completes_of_setZN (underPolicy_of_fusion hpolicy _ _) rfl (fun _ => rfl) (unchanged_setA s _)
  case shaAbsoluteY | shaIndirectY | shx | shy =>
    exact writesOperand_of_writeByte hwf rfl ((underPolicy_of_fusion hpolicy _ _).trans (storeHigh_of_resolve rfl))
      rfl rfl rfl (unchanged_poke s _ _)
  case tas =>
    refine writesOperand_of_writeByte hwf rfl
      ((underPolicy_of_fusion hpolicy _ _).trans (storeHigh_of_resolve rfl)) rfl rfl rfl ⟨?_, ?_⟩
    · simp
    · simp [Unchanged]

end Sys2Proof
end

section
/-! The host's operations (R330 to R338, R345, R346; D20, D21, D23, D24). -/

namespace Sys2Proof.Machine

variable {s t u : State} {m : List Host.Cell} {program : List Byte} {a : Addr} {k : Nat}

theorem unlessFaulted_of_not_faulted {op : State → Result} (h : ∀ f, s.run ≠ .faulted f) :
    unlessFaulted s op = op s := by
  unfold unlessFaulted
  split
  · next f hf => exact absurd hf (h f)
  · rfl

theorem unlessFaulted_of_faulted {op : State → Result} {f : Fault} (h : s.run = .faulted f) :
    unlessFaulted s op = .refused (.engineFaulted f) := by
  simp only [unlessFaulted, h]

theorem hostReset_of_not_faulted (h : ∀ f, s.run ≠ .faulted f) : hostReset s = .next s.afterReset :=
  unlessFaulted_of_not_faulted h

/-- The state `load` leaves (R332). -/
theorem hostLoad_of_not_faulted (h : ∀ f, s.run ≠ .faulted f) (hlen : program.length ≤ 0x8000) :
    hostLoad program s = .next { s with mem := loadImage s.mem program, prgSize := .bank32K } := by
  rw [hostLoad, unlessFaulted_of_not_faulted h, loadable, decide_eq_true hlen]
  rfl

/-- The RAM part of a memory reads as the memory does. -/
theorem read_ramPart (hk : k < 0x800) : Memory.read (ramPart m) k = Memory.read m k := by
  induction m with
  | nil => rfl
  | cons c rest ih =>
    obtain ⟨j, w⟩ := c
    rw [ramPart, List.filter_cons]
    by_cases hj : j < 0x800
    · simp only [hj, decide_true, if_true, Memory.read]
      exact congrArg (fun x => if j = k then w else x) ih
    · have hne : j ≠ k := by omega
      simp only [hj, decide_false, Bool.false_eq_true, Memory.read, hne, if_false]
      exact ih

/-- What the image that `load` builds holds: the vector, the program, and RAM as it was (R332, D24). -/
theorem read_loadImage (hwf : Memory.wf m = true) (k : Nat) : Memory.read (loadImage m program) k =
    if k = 0xFFFD then 0x80 else if k = 0xFFFC then 0x00
    else if 0x8000 ≤ k ∧ k < 0x8000 + program.length then program.getD (k - 0x8000) 0
    else Memory.read (ramPart m) k := by
  have hram : Memory.wf (ramPart m) = true := wf_filter _ hwf
  rw [loadImage, read_write (wf_write (wf_writeList _ hram)), read_write (wf_writeList _ hram),
    read_writeList _ hram]

/-- A read of a loaded ROM address (R59, R332). -/
theorem readByte_of_loadImage (hwf : Memory.wf m = true) (hmem : t.mem = loadImage m program)
    (hsize : t.prgSize = .bank32K) (ha : 0x8000 ≤ a.toNat) : t.readByte a =
      if a.toNat = 0xFFFD then 0x80 else if a.toNat = 0xFFFC then 0x00
      else if 0x8000 ≤ a.toNat ∧ a.toNat < 0x8000 + program.length then program.getD (a.toNat - 0x8000) 0
      else Memory.read (ramPart m) a.toNat := by
  rw [readByte_of_bank32K hsize ha, hmem, read_loadImage hwf]

/-- A load keeps every address of the RAM window (R332). -/
theorem readByte_ram_of_loadImage (hwf : Memory.wf s.mem = true) (hmem : t.mem = loadImage s.mem program)
    (ha : a.toNat < 0x2000) : t.readByte a = s.readByte a := by
  have hkey := @ramKey_lt a
  simp only [State.readByte, backing_ram _ (inRam_iff.2 ha), hmem]
  rw [read_loadImage hwf, if_neg (by omega), if_neg (by omega), if_neg (by omega), read_ramPart hkey]

/-- The reset vector that `load` writes names 0x8000 (R332). -/
theorem readWord_resetVector_of_loadImage (hwf : Memory.wf m = true) (hmem : t.mem = loadImage m program)
    (hsize : t.prgSize = .bank32K) : t.readWord Config.resetVector = 0x8000 := by
  have hhigh := readByte_of_loadImage (a := 0xFFFD) hwf hmem hsize (by decide)
  have hlow := readByte_of_loadImage (a := 0xFFFC) hwf hmem hsize (by decide)
  rw [if_pos (by decide)] at hhigh
  rw [if_neg (by decide), if_pos (by decide)] at hlow
  have hnext : Config.resetVector + 1 = 0xFFFD := by decide
  rw [State.readWord, hnext, hhigh, Config.resetVector, hlow]
  rfl

end Sys2Proof.Machine

namespace Sys2Proof

open Machine

/-- Settles O53, by evaluation: nothing is listed. -/
theorem resetMemoryInvariant : Obligations.ResetMemoryInvariant := rfl

/-- Settles O56: `afterReset` writes each field but memory. -/
theorem resetLeavesSpecifiedState : Obligations.ResetLeavesSpecifiedState := by
  intro s hs
  exact ⟨s.afterReset, hostReset_of_not_faulted hs, rfl, rfl, rfl, rfl, rfl, toNat_readWord _ s, rfl,
    fun _ => rfl, rfl⟩

/-- Settles O57, by evaluation: the vector of the empty image is 0x0000. -/
theorem resetStateIsAfterReset : Obligations.ResetStateIsAfterReset := by
  refine ⟨rfl, fun f => ?_, rfl⟩
  cases f <;> rfl

/-- Settles O58: the image that `load` builds, read at the vector, at the program's bytes and in RAM. -/
theorem loadThenResetBootsProgram : Obligations.LoadThenResetBootsProgram := by
  intro program s hok hs hlen
  obtain ⟨hwf, -⟩ := memOk_iff.1 hok
  refine ⟨_, _, hostLoad_of_not_faulted hs hlen, hostReset_of_not_faulted hs, ?pc,
    memOk_iff.2 (loadImage_ok hwf hlen), fun k hk hvector => ?program, fun a ha => ?ram⟩
  case pc => exact readWord_resetVector_of_loadImage hwf rfl rfl
  case program =>
    have haddr : (BitVec.ofNat 16 (0x8000 + k)).toNat = 0x8000 + k := by
      rw [BitVec.toNat_ofNat]; omega
    rw [readByte_of_loadImage hwf rfl rfl (by omega), haddr, if_neg (by omega), if_neg (by omega),
      if_pos (by omega), Nat.add_sub_cancel_left]
  case ram => exact readByte_ram_of_loadImage hwf rfl ha

/-- Settles O59: each operation tests the reset mark and the run state first. -/
theorem hostOperationsRefusedOutOfTurn : Obligations.HostOperationsRefusedOutOfTurn := by
  intro s program budget
  refine ⟨fun hreset => ⟨?_, ?_⟩, fun f hf =>
    ⟨unlessFaulted_of_faulted hf, unlessFaulted_of_faulted hf, fun hreset => ?_⟩⟩
  · exact step_of_stepRefusal (by simp only [stepRefusal, hreset])
  · simp only [hostRun, hostRunWithCallback, hreset]
  · simp only [hostRun, hostRunWithCallback, hreset, hf]

end Sys2Proof
end

section
/-! The run loop (R106, R335, R345): one equation for each way it goes on, the run of steps it stands for, and that
the observer changes none of it (D19). -/

namespace Sys2Proof.Machine

variable {α β : Type} {obs : State → α} {n : Nat} {s t : State} {f : Fault} {e : Refusal} {r : RunEnd α}

theorem runLoop_of_not_running (h : s.run ≠ .running) (obs : State → α) (n : Nat) :
    runLoop obs n s = .stopped s [] := by
  cases n <;> simp only [runLoop, h, if_false]

theorem runLoop_zero (h : s.run = .running) (obs : State → α) : runLoop obs 0 s = .outOfBudget s [] := by
  simp only [runLoop, h, if_true]

theorem runLoop_of_next (h : s.run = .running) (hstep : step s = .next t) (obs : State → α) (n : Nat) :
    runLoop obs (n + 1) s = (runLoop obs n t).cons (obs s) := by
  simp only [runLoop, h, if_true, hstep]

theorem runLoop_of_fault (h : s.run = .running) (hstep : step s = .fault f) (obs : State → α) (n : Nat) :
    runLoop obs (n + 1) s = .stopped (s.enterFaulted f) [obs s] := by
  simp only [runLoop, h, if_true, hstep]

theorem runLoop_of_refused (h : s.run = .running) (hstep : step s = .refused e) (obs : State → α) (n : Nat) :
    runLoop obs (n + 1) s = .refused e [obs s] := by
  simp only [runLoop, h, if_true, hstep]

/-- A run within the budget `n` from `s` that ends so: the observer saw one boundary for each step, the last of
them the one that faulted or was refused, if one did. -/
def RunsTo (obs : State → α) (n : Nat) (s : State) : RunEnd α → Prop
  | .stopped t seen =>
    (∃ bs, seen = bs.map obs ∧ StepsThrough s bs t ∧ t.run ≠ .running ∧ bs.length ≤ n) ∨
    (∃ bs u f, seen = (bs ++ [u]).map obs ∧ StepsThrough s bs u ∧ u.run = .running ∧
      step u = .fault f ∧ t.run = .faulted f ∧ bs.length < n)
  | .outOfBudget t seen =>
    ∃ bs, seen = bs.map obs ∧ StepsThrough s bs t ∧ t.run = .running ∧ bs.length = n
  | .refused r seen =>
    ∃ bs u, seen = (bs ++ [u]).map obs ∧ StepsThrough s bs u ∧ u.run = .running ∧ step u = .refused r

/-- A step in front of a run. -/
theorem RunsTo.cons (h : RunsTo obs n t r) (hrun : s.run = .running) (hstep : step s = .next t) :
    RunsTo obs (n + 1) s (r.cons (obs s)) := by
  cases r with
  | stopped u seen =>
    rcases h with ⟨bs, rfl, hsteps, hu, hlen⟩ | ⟨bs, v, f, rfl, hsteps, hv, hfault, hu, hlen⟩
    · exact .inl ⟨s :: bs, rfl, .cons hrun hstep hsteps, hu, Nat.succ_le_succ hlen⟩
    · exact .inr ⟨s :: bs, v, f, rfl, .cons hrun hstep hsteps, hv, hfault, hu, Nat.succ_lt_succ hlen⟩
  | outOfBudget u seen =>
    obtain ⟨bs, rfl, hsteps, hu, hlen⟩ := h
    exact ⟨s :: bs, rfl, .cons hrun hstep hsteps, hu, congrArg (· + 1) hlen⟩
  | refused e seen =>
    obtain ⟨bs, v, rfl, hsteps, hv, hrefused⟩ := h
    exact ⟨s :: bs, v, rfl, .cons hrun hstep hsteps, hv, hrefused⟩

/-- The loop ends as a run of steps does, by induction on the budget. -/
theorem runLoop_runsTo (obs : State → α) (n : Nat) (s : State) : RunsTo obs n s (runLoop obs n s) := by
  induction n generalizing s with
  | zero =>
    by_cases hrun : s.run = .running
    · rw [runLoop_zero hrun]
      exact ⟨[], rfl, .nil s, hrun, rfl⟩
    · rw [runLoop_of_not_running hrun]
      exact .inl ⟨[], rfl, .nil s, hrun, Nat.le_refl 0⟩
  | succ n ih =>
    by_cases hrun : s.run = .running
    case neg =>
      rw [runLoop_of_not_running hrun]
      exact .inl ⟨[], rfl, .nil s, hrun, Nat.zero_le _⟩
    case pos =>
      cases hstep : step s with
      | next t =>
        rw [runLoop_of_next hrun hstep]
        exact (ih t).cons hrun hstep
      | fault f =>
        rw [runLoop_of_fault hrun hstep]
        exact .inr ⟨[], s, f, rfl, .nil s, hrun, hstep, rfl, Nat.succ_pos n⟩
      | refused e =>
        rw [runLoop_of_refused hrun hstep]
        exact ⟨[], s, rfl, .nil s, hrun, hstep⟩

/-- The same end with what an observer saw passed through `g`. -/
def RunEnd.map (g : α → β) : RunEnd α → RunEnd β
  | .stopped s seen => .stopped s (seen.map g)
  | .outOfBudget s seen => .outOfBudget s (seen.map g)
  | .refused r seen => .refused r (seen.map g)

theorem RunEnd.map_cons (g : α → β) (v : α) (r : RunEnd α) : (r.cons v).map g = (r.map g).cons (g v) := by
  cases r <;> rfl

/-- An observer that sees less sees the same run (D19). -/
theorem runLoop_map (g : α → β) (obs : State → α) (n : Nat) (s : State) :
    runLoop (fun s => g (obs s)) n s = (runLoop obs n s).map g := by
  induction n generalizing s with
  | zero =>
    by_cases hrun : s.run = .running
    · rw [runLoop_zero hrun, runLoop_zero hrun]; rfl
    · rw [runLoop_of_not_running hrun, runLoop_of_not_running hrun]; rfl
  | succ n ih =>
    by_cases hrun : s.run = .running
    case neg => rw [runLoop_of_not_running hrun, runLoop_of_not_running hrun]; rfl
    case pos =>
      cases hstep : step s with
      | next t => rw [runLoop_of_next hrun hstep, runLoop_of_next hrun hstep, RunEnd.map_cons, ih]
      | fault f => rw [runLoop_of_fault hrun hstep, runLoop_of_fault hrun hstep]; rfl
      | refused e => rw [runLoop_of_refused hrun hstep, runLoop_of_refused hrun hstep]; rfl

/-- A run is refused before the first reset and after a fault, and is the loop otherwise (D20, D21, R335). -/
theorem hostRunWithCallback_cases (s : State) :
    (∃ e, (s.resetDone = false ∨ ∃ f, s.run = .faulted f) ∧
      ∀ (α : Type) (obs : State → α) (n : Nat), hostRunWithCallback obs n s = .refused e []) ∨
    ∀ (α : Type) (obs : State → α) (n : Nat), hostRunWithCallback obs n s = runLoop obs n s := by
  cases hreset : s.resetDone with
  | false => exact .inl ⟨_, .inl rfl, fun α obs n => by simp only [hostRunWithCallback, hreset]; rfl⟩
  | true =>
    cases hrun : s.run with
    | faulted f =>
      exact .inl ⟨_, .inr ⟨f, rfl⟩, fun α obs n => by simp only [hostRunWithCallback, hreset, hrun]; rfl⟩
    | running | halted => exact .inr fun α obs n => by simp only [hostRunWithCallback, hreset, hrun]

theorem hostRun_eq_map (obs : State → α) (n : Nat) (s : State) :
    hostRun n s = (hostRunWithCallback obs n s).map fun _ => () := by
  rcases hostRunWithCallback_cases s with ⟨e, -, h⟩ | h <;> rw [hostRun, h, h]
  · rfl
  · exact runLoop_map (fun _ => ()) obs n s

end Sys2Proof.Machine

namespace Sys2Proof

open Machine

/-- Settles O60: the equations of the loop, the run of steps it stands for, and the forgetful observer. -/
theorem observerChangesNothing : Obligations.ObserverChangesNothing := by
  intro obs budget s
  have hforget (seen : List State) : seen.map (fun _ => ()) = List.replicate seen.length () :=
    List.map_const'
  have hmap := hostRun_eq_map obs budget s
  have hloop {r : RunEnd State} (h : hostRunWithCallback obs budget s = r) :
      RunsTo obs budget s r ∨ ∃ e, r = .refused e [] ∧ (s.resetDone = false ∨ ∃ f, s.run = .faulted f) := by
    rcases hostRunWithCallback_cases s with ⟨e, hwhy, hrefused⟩ | hrun
    · exact .inr ⟨e, h.symm.trans (hrefused _ obs budget), hwhy⟩
    · exact .inl (h ▸ hrun _ obs budget ▸ runLoop_runsTo obs budget s)
  refine ⟨⟨fun h => runLoop_of_not_running h obs budget, fun h => runLoop_zero h obs,
      fun t h hstep => runLoop_of_next h hstep obs budget,
      fun f h hstep => ⟨_, runLoop_of_fault h hstep obs budget, rfl⟩⟩,
    fun t seen h => ?stopped, fun t seen h => ?outOfBudget, fun r seen h => ?refused,
    fun t seen h => ?_, fun t seen h => ?_, fun r seen h => ?_⟩
  case stopped | outOfBudget =>
    rcases hloop h with hruns | ⟨e, he, -⟩
    · exact hruns
    · cases he
  case refused =>
    rcases hloop h with hruns | ⟨e, he, hwhy⟩
    · exact .inr hruns
    · cases he; exact .inl ⟨rfl, hwhy⟩
  all_goals
    rw [hmap, h, ← hforget]
    rfl

end Sys2Proof
end
